-- ==== Sys2Proof/Word.lean ====
section
/-! DEFINITION. The word sizes of the IB-4406's records and registers (chapter 12). -/

namespace Sys2Proof

/-- One byte of a record in host memory (R202, R203). -/
abbrev Byte := BitVec 8

/-- A two-byte field of a record (R202, R203). -/
abbrev Half := BitVec 16

/-- A 32-bit register, a host byte address or the µs timebase (R189, R199, R200). -/
abbrev Word := BitVec 32

/-- One of the four axes 0..3 (section 4.6 of the scope file). -/
abbrev AxisId := Fin 4

/-- One of the eight rendezvous groups 0..7 (R78). -/
abbrev GroupId := Fin 8

end Sys2Proof
end

