-- ==== Sys2Proof/Syntax.lean ====
section
/-! DEFINITION. The commands and events of the IB-4406: one constructor of `Instr` per row of
spec/opcode_table.json, with the row's operands.

The table gives its rows no bits and no fields, so the operands are those the rule of each row
names. The nine administrative commands carry the tag and the raw argument fields of their record
(Table 12-3), values out of range included, because judging them is part of the command (R173).
A CTRL write carries three bits (R204): each of the four CTRL rows fixes its own bit and has the
remaining meaningful bits as operands, so the four rows together spell every CTRL write (log entry 24).
What the world decides is an operand (log entry 19). -/

namespace Sys2Proof

/-- The legs of an axis, section 4.6 of the scope file. -/
inductive Leg where
  | u | v | w
  deriving DecidableEq, Repr

/-- One of the five submission rings: four segment rings and the administrative ring (R133). -/
inductive RingId where
  | axis (a : AxisId)
  | admin
  deriving DecidableEq, Repr

/-- A channel of the host memory port (R199). -/
inductive Channel where
  | read | write
  deriving DecidableEq, Repr

/-- How many bytes a host access to the register window addresses (R189). -/
inductive AccessWidth where
  | byte | half | word
  deriving DecidableEq, Repr

/-- The twelve trip causes of Table 6-1 (R94). -/
inductive TripCause where
  | pin | emergency | overcurrent | busOvervolt | busUndervolt | underrun | badSegment
  | fetchFault | rdvTimeout | rdvBroken | hostDisable | postFault
  deriving DecidableEq, Repr

/-- The commands and events the block takes, one per row of spec/opcode_table.json, in its order. -/
inductive Instr where
  /-- SET_COMPLETION_RING (R178). -/
  | setCompletionRing (tag : Half) (base : Word) (size : Half)
  /-- SET_GLOBAL (R180). -/
  | setGlobal (tag : Half) (readTimeout writeTimeout k f : Byte) (w ovLimit uvLimit : Half)
  /-- SET_AXIS_RING (R179). -/
  | setAxisRing (tag : Half) (axis : Byte) (base : Word) (size : Half)
  /-- CONFIGURE_AXIS (R181). -/
  | configureAxis (tag : Half) (axis d m r : Byte) (h tBoot np g currentLimit : Half) (n pattern : Byte)
  /-- START_AXIS (R182). -/
  | startAxis (tag : Half) (axis : Byte)
  /-- STOP_AXIS (R36). -/
  | stopAxis (tag : Half) (axis mode : Byte)
  /-- CLEAR_FAULT (R110). -/
  | clearFault (tag : Half) (axis disposition : Byte)
  /-- DEFINE_GROUP (R91). -/
  | defineGroup (tag : Half) (group members : Byte) (timeout : Half)
  /-- READ_AXIS (R187). -/
  | readAxis (tag : Half) (axis : Byte) (address : Word)
  /-- SET_ENABLE (R193): a CTRL write with ENABLE 1 and SOFT_RESET 0, and this ADMIN_RESTART bit. -/
  | setEnable (adminRestart : Bool)
  /-- CLEAR_ENABLE (R194): a CTRL write with ENABLE 0 and SOFT_RESET 0, and this ADMIN_RESTART bit. -/
  | clearEnable (adminRestart : Bool)
  /-- SOFT_RESET (R196): a CTRL write with SOFT_RESET 1, and these other bits. -/
  | softReset (enable adminRestart : Bool)
  /-- ADMIN_RESTART (R175): a CTRL write with ADMIN_RESTART 1 and SOFT_RESET 0, and this ENABLE bit. -/
  | adminRestart (enable : Bool)
  /-- ADMRING_WRITE (R192): the whole word written. -/
  | admringWrite (value : Word)
  /-- PRODUCER_INDEX_WRITE (R135): the ring whose register is written and the whole word. -/
  | producerIndexWrite (ring : RingId) (value : Word)
  /-- CCONS_WRITE (R162). -/
  | cconsWrite (value : Word)
  /-- ICAUSE_WRITE (R166). -/
  | icauseWrite (value : Word)
  /-- IMASK_WRITE (R167). -/
  | imaskWrite (value : Word)
  /-- FSUM_READ (R198): the first byte addressed within the register and how many are (R189). The row
  itself has no fields: a read that says neither is one of the whole register. -/
  | fsumRead (lane : BitVec 2 := 0) (width : AccessWidth := .word)
  /-- REGISTER_WRITE_IGNORED (R189): the byte offset written and whether the write is narrower than 32 bits. -/
  | registerWriteIgnored (offset : BitVec 6) (narrow : Bool)
  /-- TRIP_PIN_ACTIVE (R102). -/
  | tripPinActive (axis : AxisId)
  /-- TRIP_PIN_INACTIVE (R102). -/
  | tripPinInactive (axis : AxisId)
  /-- EMERGENCY_ACTIVE (R104). -/
  | emergencyActive
  /-- EMERGENCY_INACTIVE (R105). -/
  | emergencyInactive
  /-- PIN_RESET (R197): RESETn driven low. -/
  | pinReset
  /-- RESET_RELEASE (R197): RESETn going high. -/
  | resetRelease
  /-- CARRIER_PEAK (R23). -/
  | carrierPeak (axis : AxisId)
  /-- CARRIER_VALLEY (R49). -/
  | carrierValley (axis : AxisId)
  /-- AXIS_TRIP (R96): a report of this cause taken for this axis. -/
  | axisTrip (axis : AxisId) (cause : TripCause)
  /-- RELEASE_TAKEN (R83). -/
  | releaseTaken (axis : AxisId)
  /-- RDV_TIMER_EXPIRY (R85). -/
  | rdvTimerExpiry (group : GroupId)
  /-- COALESCING_TIMER_EXPIRY (R164). -/
  | coalescingTimerExpiry
  /-- BUS_INTERVAL_TIMER_EXPIRY (R119). -/
  | busIntervalTimerExpiry
  /-- PORT_TIMEOUT (R199). -/
  | portTimeout (channel : Channel)
  /-- AXIS_RESULT (R122): the two 12-bit codes of the axis request at the head of the queue. -/
  | axisResult (codeU codeV : BitVec 12)
  /-- BUS_RESULT (R125): the 12-bit bus code of the bus request at the head of the queue. -/
  | busResult (code : BitVec 12)
  /-- AXIS_READ_RETURN (R144): the 32 bytes of the slot. -/
  | axisReadReturn (record : List Byte)
  /-- AXIS_READ_ERROR (R145). -/
  | axisReadError
  /-- ADMIN_READ_RETURN (R172): the 32 bytes of the slot. -/
  | adminReadReturn (record : List Byte)
  /-- ADMIN_READ_ERROR (R146). -/
  | adminReadError
  /-- COMPLETION_WRITE_OK (R159). -/
  | completionWriteOk
  /-- COMPLETION_WRITE_ERROR (R160). -/
  | completionWriteError
  /-- SNAPSHOT_WRITE_RESPONSE (R188): OK, or an error response. -/
  | snapshotWriteResponse (ok : Bool)
  /-- LATE_RESPONSE (R199). -/
  | lateResponse (channel : Channel)
  /-- RESETTING_END (R196). -/
  | resettingEnd
  /-- QUIESCE_END (R194). -/
  | quiesceEnd
  /-- TIMEBASE_INCREMENT (R200). -/
  | timebaseIncrement
  /-- CARRIER_CROSSING (R52). -/
  | carrierCrossing (axis : AxisId) (leg : Leg)
  /-- DEAD_TIME_ELAPSED (R53): of the switch this leg demands. -/
  | deadTimeElapsed (axis : AxisId) (leg : Leg)
  /-- LEG_U_CONVERSION_END (R117). -/
  | legUConversionEnd
  deriving DecidableEq, Repr

end Sys2Proof
end

