-- ==== Sys2Proof/WellFormed.lean ====
section
/-! DEFINITION. What a command's operands must satisfy to be one that can reach the block.
A read returns the 32 bytes of a slot (R143), and REGISTER_WRITE_IGNORED names a write that R189
says is ignored: a narrow write, or a 32-bit write to IDENT, STAT, FSUM or an empty offset
(Table 12-8). Every other operand's type already holds exactly the values its rule allows. -/

namespace Sys2Proof

/-- The 32-bit writes R189 ignores: IDENT 00h, STAT 08h, FSUM 30h and the offsets 34h, 38h, 3Ch. -/
def ignoredOffset (offset : BitVec 6) : Bool :=
  offset == 0x00 || offset == 0x08 || offset == 0x30 ||
    offset == 0x34 || offset == 0x38 || offset == 0x3C

/-- The check on one command. -/
def Instr.wellFormed : Instr → Bool
  | .axisReadReturn record => record.length == 32
  | .adminReadReturn record => record.length == 32
  | .registerWriteIgnored offset narrow => narrow || ignoredOffset offset
  | .setCompletionRing .. | .setGlobal .. | .setAxisRing .. | .configureAxis .. | .startAxis ..
  | .stopAxis .. | .clearFault .. | .defineGroup .. | .readAxis .. | .setEnable .. | .clearEnable ..
  | .softReset .. | .adminRestart .. | .admringWrite .. | .producerIndexWrite .. | .cconsWrite ..
  | .icauseWrite .. | .imaskWrite .. | .fsumRead .. | .tripPinActive .. | .tripPinInactive ..
  | .emergencyActive | .emergencyInactive | .pinReset | .resetRelease | .carrierPeak ..
  | .carrierValley .. | .axisTrip .. | .releaseTaken .. | .rdvTimerExpiry .. | .coalescingTimerExpiry
  | .busIntervalTimerExpiry | .portTimeout .. | .axisResult .. | .busResult .. | .axisReadError
  | .adminReadError | .completionWriteOk | .completionWriteError | .snapshotWriteResponse ..
  | .lateResponse .. | .resettingEnd | .quiesceEnd | .timebaseIncrement | .carrierCrossing ..
  | .deadTimeElapsed .. | .legUConversionEnd => true

end Sys2Proof
end

