-- ==== Sys2Proof/Decode.lean ====
section
/-! DEFINITION. Which command a word spells. The table gives its rows no bits, so no table word spells
one; a host access to the register window does (Table 12-8, R189, R204). -/

namespace Sys2Proof

/-- The command a table word spells: none, because no row of spec/opcode_table.json has bits. -/
def decodeTableWord (_nbits _w : Nat) : Option Instr := none

/-- The row a CTRL write is, by its three bits: SOFT_RESET decides before ENABLE, and ADMIN_RESTART
rides along (R191, R204). -/
def ctrlWriteRow (value : BitVec 32) : Instr :=
  let enable := value.getLsbD 0
  let restart := value.getLsbD 2
  if value.getLsbD 1 then .softReset enable restart
  else if enable then .setEnable restart
  else .clearEnable restart

/-- The row a host read of the register window is: a read of FSUM, whatever its width (R189, R198). A read
of any other register changes nothing and is no row (log entry 15). -/
def windowReadRow (offset : BitVec 6) (width : AccessWidth) : Option Instr :=
  if offset.toNat / 4 = 12 then some (.fsumRead (offset.extractLsb' 0 2) width) else none

/-- The row a host write to the register window is (Table 11-1, Table 12-8). A 32-bit write at an offset
that is no multiple of 4 is taken as one at the register that contains it (DESIGN CHOICE, log entry 29). -/
def windowWriteRow (offset : BitVec 6) (narrow : Bool) (value : BitVec 32) : Instr :=
  if narrow then .registerWriteIgnored offset true
  else match offset.toNat / 4 with
    | 1 => ctrlWriteRow value
    | 3 => .admringWrite value
    | 4 => .producerIndexWrite (.axis 0) value
    | 5 => .producerIndexWrite (.axis 1) value
    | 6 => .producerIndexWrite (.axis 2) value
    | 7 => .producerIndexWrite (.axis 3) value
    | 8 => .producerIndexWrite .admin value
    | 9 => .cconsWrite value
    | 10 => .icauseWrite value
    | 11 => .imaskWrite value
    | _ => .registerWriteIgnored offset false

end Sys2Proof
end

