-- ==== Sys2Proof/Config.lean ====
section
/-! DEFINITION. What the part fixes once for all (the principal figures of Table 0-5 and the values
of chapter 11), and the two free values of the model. -/

namespace Sys2Proof

/-- The fixed word IDENT reads (R204). -/
def Config.ident : BitVec 32 := 0x0B744061

/-- Records a prefetch FIFO holds, a fetch in flight counting as one (R137). -/
def Config.fifoDepth : Nat := 4

/-- Reservations the completion unit holds at most (R155). -/
def Config.reservationLimit : Nat := 16

/-- Ticks of the 80 MHz modulator clock in one increment of the timebase (R200). -/
def Config.ticksPerMicrosecond : Nat := 80

/-- Ticks of one conversion: 0.4 µs (R117) at 12.5 ns a tick (section 4.1 of the scope file). -/
def Config.conversionTicks : Nat := 32

/-- The bus sampling interval in µs (R119). -/
def Config.busInterval : Nat := 10

/-- The timeout in µs of a transaction issued with timeout 0 once the part is RESETTING (R196). -/
def Config.resettingTimeout : Nat := 255

/-- FREE VALUE. Which of several events that come together is taken first. The spec leaves it open
(R95: "either may be taken first", "in no fixed order"), so the k-th such choice of a run is this
constant at k, about which nothing can be proved (log entry 1). -/
opaque Config.freeChoice : Nat → Nat

/-- FREE VALUE. The code the converter gives where a conversion ends with a tick of the clock: the analog
inputs are the world's (R117), so the k-th such code of a run is this constant at k (log entry 9). -/
opaque Config.freeCode : Nat → BitVec 12

end Sys2Proof
end

