-- ==== Sys2Proof/Machine/State.lean ====
section
/-! DEFINITION. The state of the IB-4406: every piece of state Table 0-1 and the chapters name, as
plain data, the queue of waiting commands, and the machine right after reset. Fields of the model's
own (not named by the spec) say so in their docstrings. -/

namespace Sys2Proof.Machine

/-! ### Values held per leg -/

/-- One value for each of the legs U, V and W of an axis. -/
structure Legs (α : Type) where
  u : α
  v : α
  w : α
  deriving DecidableEq, Repr

/-! ### The axis sequencer (chapter 2) -/

/-- The six axis states (Table 2-1). -/
inductive AxisState where
  | idle | precharge | run | starved | waitRdv | tripped
  deriving DecidableEq, Repr

/-- The two safe patterns (R107). -/
inductive SafePattern where
  | allOff | lowOn
  deriving DecidableEq, Repr

/-- The configuration of an axis (R19, R181). -/
structure AxisConfig where
  h : Nat
  d : Nat
  m : Nat
  tBoot : Nat
  r : Nat
  np : Nat
  g : Nat
  pattern : SafePattern
  currentLimit : Nat
  n : Nat
  deriving DecidableEq, Repr

/-- The part's own copy of a segment record (R1, Table 12-1): its fields whole, unchecked. -/
structure Segment where
  tag : Half
  kind : Byte
  endOk : Bool
  quiet : Bool
  rdv : Bool
  group : BitVec 3
  periods : Half
  dutyStart : Legs Half
  dutyEnd : Legs Half
  newH : Half
  deriving DecidableEq, Repr

/-- The five statistics of an active segment (R16). -/
structure Stats where
  peakCurrent : Nat
  skipped : Nat
  stolen : Nat
  busMin : Nat
  busMax : Nat
  deriving DecidableEq, Repr

/-- The active segment context (Table 2-2): the record, its period index and its statistics. -/
structure ActiveSegment where
  seg : Segment
  index : Nat
  stats : Stats
  deriving DecidableEq, Repr

/-- A trip record (R99); the later-cause set is the 16-bit word of R203, cause code c at bit c − 1. -/
structure TripRecord where
  first : TripCause
  timestamp : Word
  later : Half
  deriving DecidableEq, Repr

/-- A top-up monitor (Table 4-1). -/
structure Monitor where
  requests : Nat
  backlog : Nat
  urgent : Bool
  deriving DecidableEq, Repr

/-- What the blocks hold for one axis. -/
@[ext]
structure Axis where
  /-- Axis state (R19). -/
  state : AxisState
  /-- Configuration (R19). -/
  config : AxisConfig
  /-- Configured flag (R19). -/
  configured : Bool
  /-- End permission (R3, R19). -/
  endPermission : Bool
  /-- Precharge period index (R19). -/
  prechargeIndex : Nat
  /-- Active segment context (R14, R19). -/
  active : Option ActiveSegment
  /-- Staged record (R13, R19). -/
  staged : Option Segment
  /-- Arrival mark: the group at which the FIFO head has arrived (R19). -/
  arrival : Option GroupId
  /-- Released mark (R19, R27). -/
  released : Bool
  /-- Grace counter (R19, R31). -/
  grace : Nat
  /-- Pending stop: the tag of its command (R19, R37). -/
  pendingStop : Option Half
  /-- THE MODEL'S OWN: a release sent by the group (R82) and not yet taken at this sequencer (R83). -/
  releaseSent : Bool
  /-- Carrier count (R46). -/
  carrierCount : Nat
  /-- THE MODEL'S OWN: the slope the count is on (R46), rising from a valley to the peak, then falling
  (log entry 14). -/
  rising : Bool
  /-- Shadow half-period (R47). -/
  shadowH : Nat
  /-- Working half-period (R47). -/
  workH : Nat
  /-- Shadow compares (R48). -/
  shadow : Legs Nat
  /-- Working compares (R48). -/
  work : Legs Nat
  /-- Shadow freewheel override (R48). -/
  shadowOverride : Bool
  /-- Working freewheel override (R48). -/
  workOverride : Bool
  /-- The three top-up monitors (R66). -/
  monitors : Legs Monitor
  /-- Stolen top-up total (R66). -/
  stolenTotal : Nat
  /-- Base of the axis ring (R133). -/
  ringBase : Word
  /-- Size of the axis ring, 0 when unconfigured (R133). -/
  ringSize : Nat
  /-- Consumer index of the axis ring (R133). -/
  consumer : Nat
  /-- Producer index register PRODn (R135). -/
  producer : Nat
  /-- Prefetch FIFO, head first (R137). -/
  fifo : List Segment
  /-- Trip record (R99). -/
  tripRecord : Option TripRecord
  /-- Level of the trip pin: true is active (R102). -/
  pinActive : Bool
  /-- Overcurrent run counter (R123). -/
  overcurrentRun : Nat
  deriving DecidableEq, Repr

/-! ### The gate outputs (chapter 3) -/

/-- The demand of a leg (R52). -/
inductive Demand where
  | high | low | neither
  deriving DecidableEq, Repr

/-- The dead-time state of a leg (R53): its demand, and for how many ticks it has lasted unbroken
(held at 255, the greatest dead time). -/
structure Gate where
  demand : Demand
  held : Nat
  deriving DecidableEq, Repr

/-! ### The rendezvous unit (chapter 5) -/

/-- The state of a group (R78). -/
inductive GroupState where
  | idle | gathering | broken
  deriving DecidableEq, Repr

/-- A group entry (Table 5-1); in the two sets axis n is bit n. -/
@[ext]
structure Group where
  members : BitVec 4
  timeout : Nat
  state : GroupState
  arrived : BitVec 4
  generation : Half
  timer : Option Nat
  deriving DecidableEq, Repr

/-! ### The protection unit (chapter 6) -/

/-- A report of a trip cause for one axis (R94). -/
structure Report where
  axis : AxisId
  cause : TripCause
  deriving DecidableEq, Repr

/-! ### The measurement unit (chapter 7) -/

/-- The source of a conversion request (R116). -/
inductive ConvSource where
  | axis (a : AxisId)
  | bus
  deriving DecidableEq, Repr

/-- Where a request stands at the converter (Table 7-1). -/
inductive Progress where
  | waiting | convertingU | convertingV | convertingBus
  deriving DecidableEq, Repr

/-- A request queue entry (Table 7-1). -/
structure ConvRequest where
  source : ConvSource
  stale : Bool
  progress : Progress
  deriving DecidableEq, Repr

/-- What the measurement unit holds apart from the per-axis overcurrent run counters. -/
@[ext]
structure Measurement where
  /-- Request queue, head first (R116). -/
  queue : List ConvRequest
  /-- Ticks for which the conversion in progress has run (R117), held at 32. -/
  elapsed : Nat
  /-- Over-voltage run counter (R126). -/
  ovRun : Nat
  /-- Under-voltage run counter (R126). -/
  uvRun : Nat
  /-- Bus interval timer (R119); none when stopped. -/
  busTimer : Option Nat
  deriving DecidableEq, Repr

/-! ### The completion unit (chapter 9) -/

/-- Completion status (Table 12-5). -/
inductive Status where
  | ok | invalid | tripped | aborted | flushed | refused | writeFault
  deriving DecidableEq, Repr

/-- Completion detail (Table 12-5). -/
inductive Detail where
  | none
  | trip (cause : TripCause)
  | badKind | badLength | badDuty | badPeriod | badGroup | badOpcode | badParameter
  | wrongState | notConfigured | noRing | tripActive | emergencyActive | busFault
  | stopPending | ringBusy | groupBusy
  | preempted
  deriving DecidableEq, Repr

/-- The result of an administrative completion (Table 12-6). -/
inductive AdminResult where
  | zero
  | startAxis (consumer occupancy : Nat)
  | stopAxis (skip : Nat)
  | clearFault (timestamp : Word) (later : Half) (skip : Nat)
  | defineGroup (previous : GroupState) (generation : Half)
  | readAxis (timebase : Word)
  deriving DecidableEq, Repr

/-- What bytes 6 to 15 of a completion carry (Table 12-4). -/
inductive CompletionBody where
  | segment (periods : Nat) (stats : Stats)
  | admin (result : AdminResult)
  deriving DecidableEq, Repr

/-- The source of a completion (Table 12-4): an axis, or ADMIN. -/
inductive CompletionSource where
  | axis (a : AxisId)
  | admin
  deriving DecidableEq, Repr

/-- A completion as its producer formed it, everything but the lap value (R154). -/
structure Completion where
  tag : Half
  source : CompletionSource
  status : Status
  detail : Detail
  body : CompletionBody
  deriving DecidableEq, Repr

/-- The completion unit (Table 9-1); its write in flight is the port's, below. -/
@[ext]
structure CompletionUnit where
  ringBase : Word
  /-- 0 when no completion ring is configured. -/
  ringSize : Nat
  producer : Nat
  lap : Bool
  /-- The consumer index CCONS. -/
  consumer : Nat
  reservations : Nat
  /-- The pending queue, head first. -/
  queue : List Completion
  coalescingCount : Nat
  coalescingTimer : Option Nat
  deriving DecidableEq, Repr

/-! ### The admin unit (chapter 10) -/

/-- Admin unit state (Table 10-1). -/
inductive AdminState where
  | waiting | fetching | executing | halted
  deriving DecidableEq, Repr

/-- Halt reason (R171). -/
inductive HaltReason where
  | none | fetchFault | noCompletionRing
  deriving DecidableEq, Repr

/-- The opcode and argument area of an administrative command record (Table 12-3), fields whole. -/
inductive AdminBody where
  | setCompletionRing (base : Word) (size : Half)
  | setGlobal (readTimeout writeTimeout k f : Byte) (w ovLimit uvLimit : Half)
  | setAxisRing (axis : Byte) (base : Word) (size : Half)
  | configureAxis (axis d m r : Byte) (h tBoot np g currentLimit : Half) (n pattern : Byte)
  | startAxis (axis : Byte)
  | stopAxis (axis mode : Byte)
  | clearFault (axis disposition : Byte)
  | defineGroup (group members : Byte) (timeout : Half)
  | readAxis (axis : Byte) (address : Word)
  | unknown (opcode : Byte)
  deriving DecidableEq, Repr

/-- An administrative command (R171). -/
structure AdminCommand where
  tag : Half
  body : AdminBody
  deriving DecidableEq, Repr

/-- The snapshot a READ_AXIS in execution has formed and not yet had answered (R187, R188). -/
structure SnapshotWork where
  address : Word
  data : List Byte
  formedAt : Word
  issued : Bool
  deriving DecidableEq, Repr

/-- The admin unit (R171) and the administrative ring (R133). -/
@[ext]
structure AdminUnit where
  state : AdminState
  haltReason : HaltReason
  current : Option AdminCommand
  snapshot : Option SnapshotWork
  /-- The ADMRING register: base and size, 0 when unconfigured (R192). -/
  ringBase : Word
  ringSize : Nat
  consumer : Nat
  /-- PRODADM. -/
  producer : Nat
  deriving DecidableEq, Repr

/-! ### The host memory port (R199) -/

/-- The transaction on the read channel: the ring it reads for, whether a reservation was taken for
it, and its timeout counter, none when not loaded. -/
structure ReadTxn where
  ring : RingId
  address : Word
  reserved : Bool
  counter : Option Nat
  deriving DecidableEq, Repr

/-- Which claimant the write channel serves (R158). -/
inductive WriteKind where
  | completion | snapshot
  deriving DecidableEq, Repr

/-- The transaction on the write channel, with the bytes it carries (R203). -/
structure WriteTxn where
  kind : WriteKind
  address : Word
  data : List Byte
  counter : Option Nat
  deriving DecidableEq, Repr

/-! ### The control block (chapter 11) -/

/-- Part state (R193 to R196). -/
inductive PartState where
  | disabled | running | quiescing | resetting | failed
  deriving DecidableEq, Repr

/-- The values SET_GLOBAL writes (R180). -/
structure Globals where
  readTimeout : Nat
  writeTimeout : Nat
  k : Nat
  w : Nat
  ovLimit : Nat
  uvLimit : Nat
  f : Nat
  deriving DecidableEq, Repr

/-- The machine. -/
@[ext]
structure State where
  /-- Part state (R193). -/
  part : PartState
  /-- RESETn is held low (R197). -/
  resetLow : Bool
  /-- ICAUSE: the interrupt causes (R166, Table 12-9). -/
  icause : BitVec 6
  /-- IMASK: the cause enables (R167). -/
  imask : BitVec 6
  /-- FSUM: the fault summary (R198, Table 12-9). -/
  fsum : BitVec 16
  /-- The µs timebase (R200). -/
  timebase : Word
  /-- Modulator ticks since the last increment of the timebase, 0..79 (R200). -/
  subTick : Nat
  /-- THE MODEL'S OWN: the word the register window last answered to a read that is a command (log entry
  14). -/
  busRead : Word
  axes : Vector Axis 4
  /-- The dead-time state of the twelve legs (R53). -/
  gates : Vector (Legs Gate) 4
  groups : Vector Group 8
  /-- Level of the emergency input: true is active (R104). -/
  emergency : Bool
  /-- Over-voltage bus fault flag (R106). -/
  ovFlag : Bool
  /-- Under-voltage bus fault flag (R106). -/
  uvFlag : Bool
  meas : Measurement
  globals : Globals
  comp : CompletionUnit
  admin : AdminUnit
  readTxn : Option ReadTxn
  writeTxn : Option WriteTxn
  /-- The read arbiter's position: the last axis served (R142). -/
  arbiter : AxisId
  /-- THE MODEL'S OWN: cause reports made (R94) and not yet taken (R95), each axis trips at its own instant
  (log entry 10). -/
  reports : List Report
  /-- THE MODEL'S OWN: how many free values the run has taken, choices of order (log entry 1)
  and codes of conversions that end by themselves (log entry 9). -/
  freeCount : Nat
  /-- The commands that are waiting, first in, first out. -/
  pending : List Instr
  deriving DecidableEq, Repr

/-- Why the machine stops with a fault. The spec gives every command and event an effect in every
state, so nothing raises a fault and the type has no constructor: safe. -/
inductive Fault where
  deriving DecidableEq, Repr

/-- Why a command has no meaning. -/
inductive Refusal where
  /-- Raised by an arm of `exec` that has no meaning yet. Safe. No arm of this model raises it. -/
  | notModelled (mnemonic : String)
  deriving DecidableEq, Repr

/-! ### Reset values -/

/-- The same value on every leg. -/
def Legs.all {α : Type} (x : α) : Legs α := ⟨x, x, x⟩

/-- The configuration after reset (R20). -/
def AxisConfig.reset : AxisConfig :=
  { h := 64, d := 0, m := 0, tBoot := 0, r := 1, np := 1, g := 0, pattern := .allOff,
    currentLimit := 2047, n := 1 }

/-- A top-up monitor after reset (R77). -/
def Monitor.reset : Monitor := ⟨0, 0, false⟩

/-- An axis after reset (R18, R20, R65, R77, R115, R131, R151); the pin level follows the input. -/
def Axis.reset (pinActive : Bool) : Axis :=
  { state := .idle, config := .reset, configured := false, endPermission := false
    prechargeIndex := 0, active := none, staged := none, arrival := none, released := false
    grace := 0, pendingStop := none, releaseSent := false
    carrierCount := 0, rising := true, shadowH := 64, workH := 64
    shadow := .all 0, work := .all 0, shadowOverride := false, workOverride := false
    monitors := .all .reset, stolenTotal := 0
    ringBase := 0, ringSize := 0, consumer := 0, producer := 0, fifo := []
    tripRecord := none, pinActive := pinActive, overcurrentRun := 0 }

/-- A leg after reset: no demand in progress on any switch (R65). -/
def Gate.reset : Gate := ⟨.neither, 0⟩

/-- A group entry after reset (R79). -/
def Group.reset : Group :=
  { members := 0, timeout := 1, state := .idle, arrived := 0, generation := 0, timer := none }

/-- The measurement unit after reset (R131). -/
def Measurement.reset : Measurement :=
  { queue := [], elapsed := 0, ovRun := 0, uvRun := 0, busTimer := none }

/-- The global settings after reset (R180). -/
def Globals.reset : Globals :=
  { readTimeout := 0, writeTimeout := 0, k := 1, w := 0, ovLimit := 4095, uvLimit := 0, f := 1 }

/-- The completion unit after reset (R169). -/
def CompletionUnit.reset : CompletionUnit :=
  { ringBase := 0, ringSize := 0, producer := 0, lap := true, consumer := 0, reservations := 0
    queue := [], coalescingCount := 0, coalescingTimer := none }

/-- The admin unit and the administrative ring after reset (R151, R171). -/
def AdminUnit.reset : AdminUnit :=
  { state := .waiting, haltReason := .none, current := none, snapshot := none
    ringBase := 0, ringSize := 0, consumer := 0, producer := 0 }

/-- The machine right after reset: the part DISABLED (R201), every block at its reset values. The
input levels are inactive and the microsecond has just begun (log entries 3 and 4). -/
def State.reset : State :=
  { part := .disabled, resetLow := false, icause := 0, imask := 0, fsum := 0, timebase := 0
    subTick := 0, busRead := 0
    axes := Vector.replicate 4 (Axis.reset false)
    gates := Vector.replicate 4 (Legs.all Gate.reset)
    groups := Vector.replicate 8 Group.reset
    emergency := false, ovFlag := false, uvFlag := false
    meas := .reset, globals := .reset, comp := .reset, admin := .reset
    readTxn := none, writeTxn := none, arbiter := 3
    reports := [], freeCount := 0, pending := [] }

end Sys2Proof.Machine
end

