-- ==== Sys2Proof/Machine/Ops.lean ====
section
/-! DEFINITION. The shared operations over the state: reading and writing one axis, group or leg,
ring arithmetic, reservations, reports of trip causes, and handing completions over. -/

namespace Sys2Proof.Machine

/-! ### Legs, axes, groups and gates -/

/-- The value of one leg. -/
def Legs.get {α : Type} (l : Legs α) : Leg → α
  | .u => l.u
  | .v => l.v
  | .w => l.w

/-- The legs with one leg's value replaced. -/
def Legs.set {α : Type} (l : Legs α) (x : α) : Leg → Legs α
  | .u => { l with u := x }
  | .v => { l with v := x }
  | .w => { l with w := x }

/-- The three legs worked out independently. -/
def Legs.of {α : Type} (f : Leg → α) : Legs α := ⟨f .u, f .v, f .w⟩

/-- What the blocks hold for axis a. -/
def State.axis (s : State) (a : AxisId) : Axis := s.axes[a]

/-- The state with axis a replaced. -/
def State.setAxis (s : State) (a : AxisId) (x : Axis) : State :=
  { s with axes := s.axes.set a x }

/-- The state with axis a changed by f. -/
def State.modAxis (s : State) (a : AxisId) (f : Axis → Axis) : State := s.setAxis a (f (s.axis a))

/-- Entry g of the group table. -/
def State.group (s : State) (g : GroupId) : Group := s.groups[g]

/-- The state with group g replaced. -/
def State.setGroup (s : State) (g : GroupId) (x : Group) : State :=
  { s with groups := s.groups.set g x }

/-- The dead-time state of one leg of axis a. -/
def State.gate (s : State) (a : AxisId) (l : Leg) : Gate := s.gates[a].get l

/-- The four axes in numerical order. -/
def axisIds : List AxisId := [0, 1, 2, 3]

/-- The eight groups in numerical order. -/
def groupIds : List GroupId := [0, 1, 2, 3, 4, 5, 6, 7]

/-! ### Axis states and part states -/

/-- An axis in PRECHARGE, RUN, STARVED or WAIT_RDV is active (Table 0-3, Table 2-1). -/
def AxisState.isActive : AxisState → Bool
  | .precharge | .run | .starved | .waitRdv => true
  | .idle | .tripped => false

/-- Axis a is active. -/
def State.activeAxis (s : State) (a : AxisId) : Bool := (s.axis a).state.isActive

/-- The blocks take events: RESETn is high and the part is not RESETTING (R35, R130, R189, R196, R197). -/
def State.live (s : State) : Bool := !s.resetLow && s.part != .resetting

/-! ### Rings (section 4.5 of the scope file, R134) -/

/-- (producer − consumer) mod size; 0 for an unconfigured ring. -/
def occupancyOf (size producer consumer : Nat) : Nat :=
  if size = 0 then 0 else (producer + size - consumer) % size

/-- The next index of a ring. -/
def nextIndex (size i : Nat) : Nat := if size = 0 then 0 else (i + 1) % size

/-- Occupancy of an axis ring (R134). -/
def Axis.occupancy (x : Axis) : Nat := occupancyOf x.ringSize x.producer x.consumer

/-- Occupancy of the administrative ring (R134). -/
def AdminUnit.occupancy (x : AdminUnit) : Nat := occupancyOf x.ringSize x.producer x.consumer

/-- Posted-unconsumed completions (R154). -/
def CompletionUnit.posted (x : CompletionUnit) : Nat := occupancyOf x.ringSize x.producer x.consumer

/-- The size is a power of two from 4 to 4096 (R133, R154). -/
def ringSizeOk (size : Nat) : Bool :=
  size == 4 || size == 8 || size == 16 || size == 32 || size == 64 || size == 128 ||
    size == 256 || size == 512 || size == 1024 || size == 2048 || size == 4096

/-- The base is a multiple of 64 bytes (R133, R154). -/
def alignedTo64 (base : Word) : Bool := base &&& 63#32 == 0#32

/-- An axis byte of 0 to 3 names an axis; any other is out of range (R202). -/
def axisOfByte (b : Byte) : Option AxisId :=
  if h : b.toNat < 4 then some ⟨b.toNat, h⟩ else none

/-- A group byte of 0 to 7 names a group; any other is out of range (R92). -/
def groupOfByte (b : Byte) : Option GroupId :=
  if h : b.toNat < 8 then some ⟨b.toNat, h⟩ else none

/-! ### Reservations (R155, R156) -/

/-- The completion unit would grant a reservation at this instant (R155). -/
def State.grantable (s : State) : Bool :=
  s.comp.ringSize != 0 && decide (s.comp.reservations < Config.reservationLimit) &&
    decide (s.comp.posted + s.comp.reservations < s.comp.ringSize - 1)

/-- A grant adds 1 to the reservation count (R155). -/
def takeReservation (s : State) : State :=
  { s with comp := { s.comp with reservations := s.comp.reservations + 1 } }

/-- The release of n reservations (R156). -/
def releaseReservations (n : Nat) (s : State) : State :=
  { s with comp := { s.comp with reservations := s.comp.reservations - n } }

/-! ### Handing completions over (R157) -/

/-- A producer hands an ordered group of completions. It joins the tail of the pending queue whole
(R157); with no ring configured it is discarded at once (R157); in FAILED it is discarded and its
reservations are released (R161). -/
def handOff (cs : List Completion) (s : State) : State :=
  if s.comp.ringSize = 0 then s
  else if s.part = .failed then releaseReservations cs.length s
  else { s with comp := { s.comp with queue := s.comp.queue ++ cs } }

/-- All five statistics zero: a record completed without ever having been active (R17). -/
def Stats.zero : Stats := ⟨0, 0, 0, 0, 0⟩

/-- The statistics with which a segment becomes active (R17). -/
def Stats.fresh : Stats := ⟨0, 0, 0, 4095, 0⟩

/-- A segment completion (R15). -/
def segmentCompletion (a : AxisId) (seg : Segment) (status : Status) (detail : Detail)
    (periods : Nat) (stats : Stats) : Completion :=
  { tag := seg.tag, source := .axis a, status := status, detail := detail
    body := .segment periods stats }

/-- An administrative completion (R173). -/
def adminCompletion (tag : Half) (status : Status) (detail : Detail) (result : AdminResult) :
    Completion :=
  { tag := tag, source := .admin, status := status, detail := detail, body := .admin result }

/-- The completion of a record that was never active: 0 periods and zero statistics (R13, R15). -/
def unplayed (a : AxisId) (status : Status) (detail : Detail) (seg : Segment) : Completion :=
  segmentCompletion a seg status detail 0 .zero

/-- A record ends with status OK: its completion is handed over, or, if it is QUIET, its reservation
is released instead (R4). -/
def completeOk (a : AxisId) (seg : Segment) (periods : Nat) (stats : Stats) (s : State) : State :=
  if seg.quiet then releaseReservations 1 s
  else handOff [segmentCompletion a seg .ok .none periods stats] s

/-! ### Reports of trip causes (R94) -/

/-- Source blocks report a cause for each of the axes named (R94). -/
def report (cause : TripCause) (axes : List AxisId) (s : State) : State :=
  { s with reports := s.reports ++ axes.map fun a => ⟨a, cause⟩ }

/-! ### Sets of axes -/

/-- Axis a is in the set. -/
def hasAxis (set : BitVec 4) (a : AxisId) : Bool := set.getLsbD a

/-- The set of axis a alone. -/
def axisBit (a : AxisId) : BitVec 4 := 1#4 <<< a.val

/-- The axes of a set, in numerical order. -/
def axesOf (set : BitVec 4) : List AxisId := axisIds.filter (hasAxis set)

/-! ### Leaving the active states -/

/-- The axis's queued conversion request is marked stale (R118). -/
def markStale (a : AxisId) (s : State) : State :=
  let mark := fun q : ConvRequest => if q.source = .axis a then { q with stale := true } else q
  { s with meas := { s.meas with queue := s.meas.queue.map mark } }

/-- The axis leaves the active states for st: it holds no record, mark or pending stop afterwards
(R20, R33) and its carrier stops at 0 (R46); what it held has been completed by the caller. A release on
its way is gone (log entry 23). -/
def Axis.stopped (x : Axis) (st : AxisState) : Axis :=
  { x with state := st, active := none, staged := none, arrival := none, released := false
           releaseSent := false, pendingStop := none, fifo := [], carrierCount := 0, rising := true }

/-- The events that come together are taken one at a time, and the spec leaves the order open: the
next one of a list, chosen by the free value when there is a choice, and the rest (log entry 1). -/
def pickNext {α : Type} (k : Nat) : List α → Option (α × List α)
  | [] => none
  | [x] => some (x, [])
  | x :: y :: rest =>
    let l := x :: y :: rest
    let i := Config.freeChoice k % l.length
    some (l.getD i x, l.eraseIdx i)

/-- Events that come about together are taken one at a time, in an order the spec leaves open and the
free value chooses (log entry 1). -/
def takeInOrder {α : Type} (take : α → State → State) : Nat → List α → State → State
  | 0, _, s => s
  | bound + 1, due, s =>
    match pickNext s.freeCount due with
    | none => s
    | some (e, rest) =>
      takeInOrder take bound rest (take e (if rest.isEmpty then s else { s with freeCount := s.freeCount + 1 }))

end Sys2Proof.Machine
end

