-- ==== Sys2Proof/Machine/Flags.lean ====
section
/-! DEFINITION. The flag registers: the interrupt causes and the line IRQn (R166, R167), the fault
summary (R198), and the status word STAT (R190), with the codes of chapter 12. -/

namespace Sys2Proof.Machine

/-- The interrupt causes (Table 9-3). -/
inductive Cause where
  | completion | trip | fault | adminHalt | quiesced | failed
  deriving DecidableEq, Repr

/-- The bit of a cause in ICAUSE and IMASK (Table 12-9). -/
def Cause.bit : Cause → Nat
  | .completion => 0
  | .trip => 1
  | .fault => 2
  | .adminHalt => 3
  | .quiesced => 4
  | .failed => 5

/-- A cause is set; one that is already set stays set (R166). -/
def raise (c : Cause) (s : State) : State := { s with icause := s.icause ||| (1#6 <<< c.bit) }

/-- The interrupt output: true while IRQn is driven low (R167). -/
def State.irqLow (s : State) : Bool := s.icause &&& s.imask != 0

/-- A fault source of the fault summary (R198). -/
inductive FaultSource where
  | admin
  | axis (a : AxisId)
  | completion
  | snapshot
  deriving DecidableEq, Repr

/-- The number of a source in FSUM (Table 12-9). -/
def FaultSource.number : FaultSource → Nat
  | .admin => 0
  | .axis a => a.val + 1
  | .completion => 5
  | .snapshot => 6

/-- How a transaction ended badly (R198). -/
inductive FaultKind where
  | error | timeout
  deriving DecidableEq, Repr

/-- A bit of the fault summary (R198). -/
inductive FaultBit where
  | transaction (source : FaultSource) (kind : FaultKind)
  | index
  | register
  deriving DecidableEq, Repr

/-- The position of a bit in FSUM (Table 12-9). -/
def FaultBit.position : FaultBit → Nat
  | .transaction source .error => 2 * source.number
  | .transaction source .timeout => 2 * source.number + 1
  | .index => 14
  | .register => 15

/-- A fault is recorded: its bit is set and the others kept; FAULT is raised when the summary changes
from zero to nonzero (R166, R198). -/
def recordFault (b : FaultBit) (s : State) : State :=
  let s' := { s with fsum := s.fsum ||| (1#16 <<< b.position) }
  if s.fsum = 0 then raise .fault s' else s'

/-- Part state code (Table 12-9). -/
def PartState.code : PartState → Nat
  | .disabled => 0
  | .running => 1
  | .quiescing => 2
  | .resetting => 3
  | .failed => 4

/-- Admin unit state code (Table 12-9). -/
def AdminState.code : AdminState → Nat
  | .waiting => 0
  | .fetching => 1
  | .executing => 2
  | .halted => 3

/-- Halt reason code (Table 12-9). -/
def HaltReason.code : HaltReason → Nat
  | .none => 0
  | .fetchFault => 1
  | .noCompletionRing => 2

/-- Axis state code (Table 12-7). -/
def AxisState.code : AxisState → Nat
  | .idle => 0
  | .precharge => 1
  | .run => 2
  | .starved => 3
  | .waitRdv => 4
  | .tripped => 5

/-- A field of a register word: the value at the bit position. -/
def fieldAt (position value : Nat) : Word := BitVec.ofNat 32 value <<< position

/-- The word a read of STAT returns (R190, Table 12-9). -/
def State.stat (s : State) : Word :=
  fieldAt 0 s.part.code ||| fieldAt 4 s.admin.state.code ||| fieldAt 6 s.admin.haltReason.code |||
  axisIds.foldl (fun acc a => acc ||| fieldAt (8 + 3 * a.val) (s.axis a).state.code |||
      fieldAt (20 + a.val) (s.axis a).pinActive.toNat) 0#32 |||
  fieldAt 24 s.emergency.toNat ||| fieldAt 25 s.ovFlag.toNat ||| fieldAt 26 s.uvFlag.toNat

end Sys2Proof.Machine
end

