-- ==== Sys2Proof/Machine/Operands.lean ====
section
/-! DEFINITION. The record formats of chapter 12: how the part reads a segment record and an
administrative command record from their bytes (R202), and how it writes a completion and a snapshot
(R203). The encoders of the two input records are written from the same tables. -/

namespace Sys2Proof.Machine

/-! ### Fields of a record, little-endian -/

/-- The byte at an offset of a record; one that is missing reads as 0 (log entry 16). -/
def byteAt (r : List Byte) (offset : Nat) : Byte := r.getD offset 0

/-- The two-byte field at an offset, least significant byte first (R202). -/
def halfAt (r : List Byte) (offset : Nat) : Half := byteAt r (offset + 1) ++ byteAt r offset

/-- The four-byte field at an offset, least significant byte first (R202). -/
def wordAt (r : List Byte) (offset : Nat) : Word := halfAt r (offset + 2) ++ halfAt r offset

/-- The bytes of a two-byte field, least significant first (R203). -/
def halfBytes (x : Half) : List Byte := [x.extractLsb' 0 8, x.extractLsb' 8 8]

/-- The bytes of a four-byte field, least significant first (R203). -/
def wordBytes (x : Word) : List Byte :=
  halfBytes (x.extractLsb' 0 16) ++ halfBytes (x.extractLsb' 16 16)

/-- A two-byte field holding a number. -/
def natBytes (n : Nat) : List Byte := halfBytes (BitVec.ofNat 16 n)

/-- Reserved bytes are written as 0 (R203). -/
def zeroBytes (n : Nat) : List Byte := List.replicate n 0

/-! ### Records read by the part -/

/-- The five kinds of segment (R2). -/
inductive Kind where
  | hold | ramp | freewheel | brake | mark
  deriving DecidableEq, Repr

/-- Kind codes; code 0 and codes 6 to 255 name no kind (R202). -/
def kindOf (code : Byte) : Option Kind :=
  if code = 1#8 then some .hold
  else if code = 2#8 then some .ramp
  else if code = 3#8 then some .freewheel
  else if code = 4#8 then some .brake
  else if code = 5#8 then some .mark
  else none

/-- The record is a MARK. -/
def Segment.isMark (seg : Segment) : Bool := kindOf seg.kind == some .mark

/-- The rendezvous group a record names: bits 0 to 2 of its group byte (Table 12-1). -/
def Segment.groupId (seg : Segment) : GroupId := ⟨seg.group.toNat, seg.group.isLt⟩

/-- A segment record from its bytes (Table 12-1). -/
def decodeSegment (r : List Byte) : Segment :=
  { tag := halfAt r 0
    kind := byteAt r 2
    endOk := (byteAt r 3).getLsbD 0
    quiet := (byteAt r 3).getLsbD 1
    rdv := (byteAt r 3).getLsbD 2
    group := (byteAt r 4).extractLsb' 0 3
    periods := halfAt r 6
    dutyStart := ⟨halfAt r 8, halfAt r 10, halfAt r 12⟩
    dutyEnd := ⟨halfAt r 14, halfAt r 16, halfAt r 18⟩
    newH := halfAt r 20 }

/-- The bytes of a segment record, reserved bytes and bits 0 (Table 12-1). -/
def encodeSegment (seg : Segment) : List Byte :=
  halfBytes seg.tag ++ [seg.kind,
    (0#5 ++ BitVec.ofBool seg.rdv ++ BitVec.ofBool seg.quiet ++ BitVec.ofBool seg.endOk : BitVec 8),
    (0#5 ++ seg.group : BitVec 8), 0#8] ++
  halfBytes seg.periods ++
  halfBytes seg.dutyStart.u ++ halfBytes seg.dutyStart.v ++ halfBytes seg.dutyStart.w ++
  halfBytes seg.dutyEnd.u ++ halfBytes seg.dutyEnd.v ++ halfBytes seg.dutyEnd.w ++
  halfBytes seg.newH ++ zeroBytes 10

/-- The opcode and argument area of a command record (Table 12-3). -/
def decodeBody (r : List Byte) : AdminBody :=
  let opcode := byteAt r 2
  if opcode = 0x01#8 then .setCompletionRing (wordAt r 4) (halfAt r 8)
  else if opcode = 0x02#8 then
    .setGlobal (byteAt r 4) (byteAt r 5) (byteAt r 6) (byteAt r 7) (halfAt r 8) (halfAt r 10)
      (halfAt r 12)
  else if opcode = 0x03#8 then .setAxisRing (byteAt r 4) (wordAt r 8) (halfAt r 12)
  else if opcode = 0x04#8 then
    .configureAxis (byteAt r 4) (byteAt r 5) (byteAt r 6) (byteAt r 7) (halfAt r 8) (halfAt r 10)
      (halfAt r 12) (halfAt r 14) (halfAt r 16) (byteAt r 18) (byteAt r 19)
  else if opcode = 0x05#8 then .startAxis (byteAt r 4)
  else if opcode = 0x06#8 then .stopAxis (byteAt r 4) (byteAt r 5)
  else if opcode = 0x07#8 then .clearFault (byteAt r 4) (byteAt r 5)
  else if opcode = 0x08#8 then .defineGroup (byteAt r 4) (byteAt r 5) (halfAt r 6)
  else if opcode = 0x09#8 then .readAxis (byteAt r 4) (wordAt r 8)
  else .unknown opcode

/-- An administrative command record from its bytes (Table 12-2). -/
def decodeCommand (r : List Byte) : AdminCommand := ⟨halfAt r 0, decodeBody r⟩

/-- Bytes 2 to 31 of a command record, reserved bytes 0 (Table 12-3). -/
def encodeBody : AdminBody → List Byte
  | .setCompletionRing base size =>
    [0x01#8, 0#8] ++ wordBytes base ++ halfBytes size ++ zeroBytes 22
  | .setGlobal rt wt k f w ov uv =>
    [0x02#8, 0#8, rt, wt, k, f] ++ halfBytes w ++ halfBytes ov ++ halfBytes uv ++ zeroBytes 18
  | .setAxisRing axis base size =>
    [0x03#8, 0#8, axis, 0#8, 0#8, 0#8] ++ wordBytes base ++ halfBytes size ++ zeroBytes 18
  | .configureAxis axis d m r h tBoot np g limit n pattern =>
    [0x04#8, 0#8, axis, d, m, r] ++ halfBytes h ++ halfBytes tBoot ++ halfBytes np ++ halfBytes g ++
      halfBytes limit ++ [n, pattern] ++ zeroBytes 12
  | .startAxis axis => [0x05#8, 0#8, axis] ++ zeroBytes 27
  | .stopAxis axis mode => [0x06#8, 0#8, axis, mode] ++ zeroBytes 26
  | .clearFault axis disposition => [0x07#8, 0#8, axis, disposition] ++ zeroBytes 26
  | .defineGroup group members timeout =>
    [0x08#8, 0#8, group, members] ++ halfBytes timeout ++ zeroBytes 24
  | .readAxis axis address =>
    [0x09#8, 0#8, axis, 0#8, 0#8, 0#8] ++ wordBytes address ++ zeroBytes 20
  | .unknown opcode => [opcode, 0#8] ++ zeroBytes 28

/-- The 32 bytes of an administrative command record (Table 12-2). -/
def encodeCommand (c : AdminCommand) : List Byte := halfBytes c.tag ++ encodeBody c.body

/-- An unknown opcode is none of the nine of Table 12-3. -/
def AdminBody.opcodeOk : AdminBody → Bool
  | .unknown opcode => opcode == 0 || decide (9 < opcode.toNat)
  | _ => true

/-! ### Codes of the records the part writes (Table 12-5) -/

/-- Trip cause codes. -/
def causeCode : TripCause → Nat
  | .pin => 0x01
  | .emergency => 0x02
  | .overcurrent => 0x03
  | .busOvervolt => 0x04
  | .busUndervolt => 0x05
  | .underrun => 0x06
  | .badSegment => 0x07
  | .fetchFault => 0x08
  | .rdvTimeout => 0x09
  | .rdvBroken => 0x0A
  | .hostDisable => 0x0B
  | .postFault => 0x0C

/-- The bit of a cause in a later-cause set: code c is bit c − 1 (R203). -/
def causeBit (c : TripCause) : Half := 1#16 <<< (causeCode c - 1)

/-- Status codes. -/
def statusCode : Status → Nat
  | .ok => 0
  | .invalid => 1
  | .tripped => 2
  | .aborted => 3
  | .flushed => 4
  | .refused => 5
  | .writeFault => 6

/-- Detail codes. -/
def detailCode : Detail → Nat
  | .none => 0x00
  | .trip c => causeCode c
  | .badKind => 0x10
  | .badLength => 0x11
  | .badDuty => 0x12
  | .badPeriod => 0x13
  | .badGroup => 0x14
  | .badOpcode => 0x15
  | .badParameter => 0x16
  | .wrongState => 0x20
  | .notConfigured => 0x21
  | .noRing => 0x22
  | .tripActive => 0x23
  | .emergencyActive => 0x24
  | .busFault => 0x25
  | .stopPending => 0x26
  | .ringBusy => 0x27
  | .groupBusy => 0x28
  | .preempted => 0x30

/-- Source codes: 0 to 3 for an axis, 4 for ADMIN (R203). -/
def sourceCode : CompletionSource → Nat
  | .axis a => a.val
  | .admin => 4

/-- Group state codes in a DEFINE_GROUP result (Table 12-6). -/
def groupStateCode : GroupState → Nat
  | .idle => 0
  | .gathering => 1
  | .broken => 2

/-! ### Records written by the part -/

/-- The 8-byte result of an administrative completion, offsets 8 to 15 of the record (Table 12-6). -/
def resultBytes : AdminResult → List Byte
  | .zero => zeroBytes 8
  | .startAxis consumer occupancy => natBytes consumer ++ natBytes occupancy ++ zeroBytes 4
  | .stopAxis skip => natBytes skip ++ zeroBytes 6
  | .clearFault timestamp later skip => wordBytes timestamp ++ halfBytes later ++ natBytes skip
  | .defineGroup previous generation =>
    [BitVec.ofNat 8 (groupStateCode previous), 0#8] ++ halfBytes generation ++ zeroBytes 4
  | .readAxis timebase => wordBytes timebase ++ zeroBytes 4

/-- Offsets 6 to 15 of a completion (Table 12-4). -/
def bodyBytes : CompletionBody → List Byte
  | .segment periods stats =>
    natBytes periods ++ natBytes stats.peakCurrent ++
      [BitVec.ofNat 8 stats.skipped, BitVec.ofNat 8 stats.stolen] ++
      natBytes stats.busMin ++ natBytes stats.busMax
  | .admin result => zeroBytes 2 ++ resultBytes result

/-- The 16 bytes of a completion, with the lap value in bit 7 of byte 2 (R203, Table 12-4). -/
def completionBytes (lap : Bool) (c : Completion) : List Byte :=
  halfBytes c.tag ++
    [BitVec.ofNat 8 (sourceCode c.source) ||| (if lap then 0x80#8 else 0#8),
     BitVec.ofNat 8 (statusCode c.status), BitVec.ofNat 8 (detailCode c.detail), 0#8] ++
    bodyBytes c.body

/-- The position value of a snapshot (R45). -/
def Axis.position (x : Axis) : Nat :=
  match x.state with
  | .run => (x.active.map (·.index)).getD 0
  | .precharge => x.prechargeIndex
  | .starved => x.grace
  | .idle | .waitRdv | .tripped => 0

/-- The byte of one leg's monitor in a snapshot: backlog in bits 0 to 1, URGENT in bit 7 (Table 12-7). -/
def monitorByte (m : Monitor) : Byte :=
  BitVec.ofNat 8 m.backlog ||| (if m.urgent then 0x80#8 else 0#8)

/-- The 64 bytes of the snapshot of axis a, formed at this instant (R187, Table 12-7). -/
def snapshotBytes (s : State) (a : AxisId) : List Byte :=
  let x := s.axis a
  [BitVec.ofNat 8 x.state.code, BitVec.ofNat 8 x.fifo.length] ++ natBytes x.consumer ++
    natBytes x.position ++
    [BitVec.ofNat 8 ((x.tripRecord.map fun t => causeCode t.first).getD 0), BitVec.ofNat 8 a.val] ++
    wordBytes ((x.tripRecord.map (·.timestamp)).getD 0) ++
    halfBytes ((x.tripRecord.map (·.later)).getD 0) ++
    [monitorByte x.monitors.u, monitorByte x.monitors.v, monitorByte x.monitors.w, 0#8] ++
    natBytes x.stolenTotal ++ zeroBytes 4 ++
    groupIds.flatMap (fun g =>
      halfBytes (if hasAxis (s.group g).members a then (s.group g).generation else 0)) ++
    zeroBytes 24

end Sys2Proof.Machine
end

