-- ==== Sys2Proof/Machine/Modulator.lean ====
section
/-! DEFINITION. The modulator (chapter 3): the carrier, the valley load that derives the working
compares, the derived on-times, the demand of each leg and the dead time at the gate outputs. -/

namespace Sys2Proof.Machine

/-! ### The carrier (R46) -/

/-- The count of the present tick, the lower of the two values the carrier runs between (R46). -/
def Axis.tickCount (x : Axis) : Nat := if x.rising then x.carrierCount else x.carrierCount - 1

/-! ### From requested to effective compare (R50) -/

/-- The result of deriving one leg: its working compare, and whether the clamp lowered it (R50). -/
structure Derived where
  compare : Nat
  stolen : Bool
  deriving DecidableEq, Repr

/-- 0 < width − D < M: the pulse is shorter than the minimum pulse and not already swallowed by the
dead time (R50, steps 1 and 3). -/
def shortPulse (width d m : Nat) : Bool := decide (d < width) && decide (width - d < m)

/-- Minimum-pulse snap (R50, step 1). -/
def snap (h d m c : Nat) : Nat :=
  if shortPulse (2 * c) d m then 0
  else if shortPulse (2 * (h - c)) d m then h
  else c

/-- Cmax = H − ceil((T_boot + D) / 2) (R50, step 2). -/
def clampLimit (h d tBoot : Nat) : Nat := h - (tBoot + d + 1) / 2

/-- Bootstrap clamp (R50, step 2). -/
def clamp (h d tBoot : Nat) (urgent : Bool) (c : Nat) : Derived :=
  if urgent && decide (clampLimit h d tBoot < c) then ⟨clampLimit h d tBoot, true⟩ else ⟨c, false⟩

/-- The three steps of R50, in order, on a shadow compare. -/
def deriveCompare (h : Nat) (cfg : AxisConfig) (urgent : Bool) (c : Nat) : Derived :=
  let clamped := clamp h cfg.d cfg.tBoot urgent (snap h cfg.d cfg.m c)
  if shortPulse (2 * clamped.compare) cfg.d cfg.m then ⟨0, clamped.stolen⟩ else clamped

/-! ### Derived on-times (R51) -/

/-- The derived high on-time of a period (Table 3-1). -/
def highOnTime (h d : Nat) (override : Bool) (c : Nat) : Nat :=
  if override then 0 else if c = 0 then 0 else if h ≤ c then 2 * h else 2 * c - d

/-- The derived low on-time of a period (Table 3-1). -/
def lowOnTime (h d : Nat) (override : Bool) (c : Nat) : Nat :=
  if override then 0 else if c = 0 then 2 * h else if h ≤ c then 0 else 2 * (h - c) - d

/-! ### The valley load (R49, step 3) -/

/-- The derivation of every leg of an axis at a valley load. -/
def Axis.derived (x : Axis) : Legs Derived :=
  .of fun l => deriveCompare x.shadowH x.config (x.monitors.get l).urgent (x.shadow.get l)

/-- How many legs' compares the clamp lowered at this load (R72). -/
def Axis.stolenLegs (x : Axis) : Nat :=
  x.derived.u.stolen.toNat + x.derived.v.stolen.toNat + x.derived.w.stolen.toNat

/-- The active segment with n stolen top-ups counted, saturating at 255 (R16, R72). -/
def ActiveSegment.countStolen (n : Nat) (g : ActiveSegment) : ActiveSegment :=
  { g with stats := { g.stats with stolen := min 255 (g.stats.stolen + n) } }

/-- The valley load: shadow half-period and override become the working ones, each leg's working
compare is derived, and stolen top-ups are counted into the active segment and the axis's total,
which stops at 65535 (R49, R72). -/
def Axis.load (x : Axis) : Axis :=
  { x with workH := x.shadowH
           workOverride := x.shadowOverride
           work := .of fun l => (x.derived.get l).compare
           active := x.active.map (·.countStolen x.stolenLegs)
           stolenTotal := min 65535 (x.stolenTotal + x.stolenLegs) }

/-! ### Demand and dead time (R52, R53) -/

/-- The demand of a leg, by the first condition of R52 that holds. -/
def legDemand (s : State) (a : AxisId) (l : Leg) : Demand :=
  let x := s.axis a
  if s.emergency then .neither
  else if s.part = .resetting then .neither
  else match x.state with
    | .idle => .neither
    | .tripped => if x.config.pattern = .lowOn then .low else .neither
    | .precharge | .run | .starved | .waitRdv =>
      if x.workOverride then .neither
      else if x.tickCount < x.work.get l then .high
      else .low

/-- The dead-time state when a demand is looked at: an unbroken demand goes on, a new one begins. -/
def Gate.follow (g : Gate) (d : Demand) : Gate := if g.demand = d then g else ⟨d, 0⟩

/-- The legs follow their deciding conditions at the instant these change (R52). -/
def refreshGates (s : State) : State :=
  { s with gates := Vector.ofFn fun a => Legs.of fun l => (s.gate a l).follow (legDemand s a l) }

/-- The two switches of a leg (section 4.6 of the scope file). -/
inductive Side where
  | high | low
  deriving DecidableEq, Repr

/-- The demand that names a side. -/
def Side.demand : Side → Demand
  | .high => .high
  | .low => .low

/-- A switch is on when it has been demanded continuously for at least the last D ticks (R53). -/
def switchOn (s : State) (a : AxisId) (l : Leg) (side : Side) : Bool :=
  (s.gate a l).demand == side.demand && decide ((s.axis a).config.d ≤ (s.gate a l).held)

/-- One more tick of an unbroken demand, held at 255 (log entry 25). -/
def Gate.age (g : Gate) : Gate := { g with held := min 255 (g.held + 1) }

/-- One tick passes at every leg (R53). -/
def ageGates (s : State) : State :=
  { s with gates := Vector.ofFn fun a => Legs.of fun l => (s.gate a l).age }

/-- DEAD_TIME_ELAPSED: the demand of this leg has lasted D ticks (R53). -/
def deadTimePassed (a : AxisId) (l : Leg) (s : State) : State :=
  let g := s.gate a l
  let g' := if g.demand = .neither then g else { g with held := max g.held (s.axis a).config.d }
  { s with gates := s.gates.set a (s.gates[a].set g' l) }

/-- CARRIER_CROSSING: the carrier of an active axis reaches a leg's working compare, going up or
coming down (R52). Where the count has already crossed it on this slope, nothing happens. -/
def carrierCross (a : AxisId) (l : Leg) (s : State) : State :=
  let x := s.axis a
  let c := x.work.get l
  if s.live && x.state.isActive &&
      (if x.rising then decide (x.carrierCount < c) && decide (c < x.workH)
       else decide (0 < c) && decide (c < x.carrierCount)) then
    s.setAxis a { x with carrierCount := c }
  else s

end Sys2Proof.Machine
end

