-- ==== Sys2Proof/Machine/TopUp.lean ====
section
/-! DEFINITION. The top-up monitors (chapter 4): the account of one leg at a valley. -/

namespace Sys2Proof.Machine

/-- The high-side step (R68): the request counter adds 1 and wraps at R into the backlog, which stays
at most 3. -/
def Monitor.highSideStep (r highOn : Nat) (m : Monitor) : Monitor :=
  if highOn = 0 then m
  else if r ≤ m.requests + 1 then { m with requests := 0, backlog := min 3 (m.backlog + 1) }
  else { m with requests := m.requests + 1 }

/-- The qualifying step (R69): a period whose low on-time is at least T_boot, the override clear, pays
one top-up. -/
def Monitor.qualifyingStep (tBoot : Nat) (override : Bool) (lowOn : Nat) (m : Monitor) : Monitor :=
  if !override && decide (tBoot ≤ lowOn) then { m with backlog := m.backlog - 1 } else m

/-- URGENT is set at backlog 3, cleared at 0 and kept between (R70). -/
def Monitor.updateUrgent (m : Monitor) : Monitor :=
  { m with urgent := if m.backlog = 3 then true else if m.backlog = 0 then false else m.urgent }

/-- One valley's accounting on a leg (R67 to R70); an inactive monitor holds nothing (R75). -/
def Monitor.account (cfg : AxisConfig) (h : Nat) (override : Bool) (c : Nat) (m : Monitor) : Monitor :=
  if cfg.tBoot = 0 then .reset
  else
    let m1 := m.highSideStep cfg.r (highOnTime h cfg.d override c)
    let m2 := m1.qualifyingStep cfg.tBoot override (lowOnTime h cfg.d override c)
    m2.updateUrgent

/-- The valley that comes closes the last precharge period (R22). -/
def Axis.endsPrecharge (x : Axis) : Bool :=
  x.state == .precharge && decide (x.config.np ≤ x.prechargeIndex + 1)

/-- Step 1 of the valley event (R49): the three monitors account for the period just closed, and at
the valley closing the last precharge period they are cleared (R74; log entry 5). -/
def Axis.account (x : Axis) : Axis :=
  { x with monitors :=
      if x.endsPrecharge then .all .reset
      else .of fun l =>
        (x.monitors.get l).account x.config x.workH x.workOverride (x.work.get l) }

end Sys2Proof.Machine
end

