-- ==== Sys2Proof/Machine/Rendezvous.lean ====
section
/-! DEFINITION. The rendezvous unit (chapter 5): arrival, release, departure, break and timeout. -/

namespace Sys2Proof.Machine

/-- What an arrival at a group comes to (R81). -/
inductive ArrivalOutcome where
  /-- The group gathers on; the head waits. -/
  | waits
  /-- The arrival completed the set and the group released at once (R82). -/
  | released
  /-- The group is BROKEN: the arriving axis is refused (R88). -/
  | refused
  deriving DecidableEq, Repr

/-- The group after a release (R82): set emptied, generation counted, timer stopped, IDLE. -/
def Group.afterRelease (x : Group) : Group :=
  { x with state := .idle, arrived := 0, generation := x.generation + 1, timer := none }

/-- A release is sent to an axis (R82). -/
def sendRelease (b : AxisId) (s : State) : State := s.modAxis b ({ · with releaseSent := true })

/-- An axis arrives at a group (R81). A release is sent to every other axis of the arrived set; for
the arriving axis the release falls at its own staging peak (R83), so its sequencer takes it at once. -/
def arrive (a : AxisId) (g : GroupId) (s : State) : State × ArrivalOutcome :=
  let x := s.group g
  match x.state with
  | .broken => (s, .refused)
  | .idle | .gathering =>
    let x' := { x with state := .gathering, arrived := x.arrived ||| axisBit a
                       timer := if x.state = .idle then some x.timeout else x.timer }
    if x'.arrived = x'.members then
      let others := (axesOf x'.arrived).filter (· ≠ a)
      (others.foldl (fun s b => sendRelease b s) (s.setGroup g x'.afterRelease), .released)
    else (s.setGroup g x', .waits)

/-- A stopping axis is removed from the arrived set of the group of its mark; the group returns to
IDLE and its timer stops when the set empties (R90). -/
def depart (a : AxisId) (s : State) : State :=
  match (s.axis a).arrival with
  | none => s
  | some g =>
    let x := s.group g
    if x.state = .gathering && hasAxis x.arrived a then
      let left := x.arrived &&& ~~~ axisBit a
      s.setGroup g
        (if left = 0 then { x with arrived := 0, state := .idle, timer := none }
         else { x with arrived := left })
    else s

/-- A group that has failed: BROKEN, arrived set empty, timer stopped (R85, R86). -/
def Group.afterBreak (x : Group) : Group := { x with state := .broken, arrived := 0, timer := none }

/-- Axis a has entered TRIPPED: a GATHERING group of which it is a member breaks, and RDV_BROKEN is
reported for every other axis that had arrived (R86). Any other group is unchanged (R87). -/
def breakGroup (a : AxisId) (g : GroupId) (s : State) : State :=
  let x := s.group g
  if x.state = .gathering && hasAxis x.members a then
    report .rdvBroken ((axesOf x.arrived).filter (· ≠ a)) (s.setGroup g x.afterBreak)
  else s

/-- Every group is told that axis a has entered TRIPPED (R86). -/
def breakGroups (a : AxisId) (s : State) : State := groupIds.foldl (fun s g => breakGroup a g s) s

/-- Expiry of a gathering group's running timer: the group is BROKEN before RDV_TIMEOUT is reported
for every axis that had arrived (R85). A stopped timer does not expire (R84). An axis that another cause
trips before it takes this report gets RDV_TIMEOUT as a later cause, though R100 does not list it (DEDUCED,
log entry 32). -/
def groupTimeout (g : GroupId) (s : State) : State :=
  let x := s.group g
  if s.live && x.state == .gathering && x.timer.isSome then
    report .rdvTimeout (axesOf x.arrived) (s.setGroup g x.afterBreak)
  else s

end Sys2Proof.Machine
end

