-- ==== Sys2Proof/Machine/Sequencer.lean ====
section
/-! DEFINITION. The axis sequencer (chapters 1 and 2): requested compares, validation, staging, the
examination of the FIFO at a staging point, releases, the sequencer's part of a peak and of a valley,
and both stop modes. A trip is only reported here; taking it is in Protection.lean. -/

namespace Sys2Proof.Machine

/-! ### Duties and requested compares (R2, R6, R7) -/

/-- The duty of a RAMP leg in period k of n: start + trunc((end − start) × (k + 1) / n) (R6). -/
def rampDuty (start final k n : Nat) : Nat :=
  ((start : Int) + (((final : Int) - start) * (k + 1)).tdiv n).toNat

/-- The requested compare floor(duty × H / 4096) (R7). -/
def compareOf (duty h : Nat) : Nat := duty * h / 4096

/-- What period k of a segment requests of one leg, at half-period h (R2, R7). -/
def Segment.compare (seg : Segment) (k h : Nat) (l : Leg) : Nat :=
  match kindOf seg.kind with
  | some .hold => compareOf (seg.dutyStart.get l).toNat h
  | some .ramp =>
    compareOf (rampDuty (seg.dutyStart.get l).toNat (seg.dutyEnd.get l).toNat k seg.periods.toNat) h
  | _ => 0

/-- FREEWHEEL periods set the both-off override (R2). -/
def Segment.override (seg : Segment) : Bool := kindOf seg.kind == some .freewheel

/-- The sequencer writes the request of period k of a segment to the shadow (R7, R48). -/
def Axis.request (x : Axis) (seg : Segment) (k : Nat) : Axis :=
  { x with shadow := .of fun l => seg.compare k x.shadowH l, shadowOverride := seg.override }

/-! ### Validation (R10) -/

/-- A duty of a triple is over 4096 (Table 1-3, check 3). -/
def dutyOver (d : Legs Half) : Bool :=
  decide (4096 < d.u.toNat) || decide (4096 < d.v.toNat) || decide (4096 < d.w.toNat)

/-- The conditions of Table 3-5 that depend on H (1, 5 and 7) hold (R62). -/
def periodLegal (h d m tBoot : Nat) : Bool :=
  decide (64 ≤ h) && decide (h ≤ 32767) && decide (d + m < h) &&
    (tBoot == 0 || decide (tBoot + d ≤ 2 * h))

/-- The checks of Table 1-3 in order; the first that fails gives the detail code (R10). -/
def validate (s : State) (a : AxisId) (seg : Segment) : Option Detail :=
  let cfg := (s.axis a).config
  match kindOf seg.kind with
  | none => some .badKind
  | some kind =>
    if (kind = .mark ∧ seg.periods ≠ 0) ∨ (kind ≠ .mark ∧ seg.periods = 0) then some .badLength
    else if (kind = .hold ∧ dutyOver seg.dutyStart) ∨
        (kind = .ramp ∧ (dutyOver seg.dutyStart ∨ dutyOver seg.dutyEnd)) then some .badDuty
    else if kind ≠ .mark ∧ seg.newH ≠ 0 ∧ ¬ periodLegal seg.newH.toNat cfg.d cfg.m cfg.tBoot then
      some .badPeriod
    else if seg.rdv ∧ ¬ hasAxis (s.group seg.groupId).members a then some .badGroup
    else none

/-! ### Staging and MARKs -/

/-- A record is staged: a nonzero new half-period goes to the shadow, then the first period's request
worked out with it (R7, R8, R13). -/
def Axis.stage (x : Axis) (seg : Segment) : Axis :=
  let x' := { x with shadowH := if seg.newH = 0 then x.shadowH else seg.newH.toNat, staged := some seg }
  x'.request seg 0

/-- The FIFO head leaves the FIFO, the rest staying (R137). -/
def Axis.popped (x : Axis) (rest : List Segment) : Axis := { x with fifo := rest }

/-- The head is staged (R24, case 5). -/
def stageHead (a : AxisId) (seg : Segment) (rest : List Segment) (s : State) : State :=
  s.modAxis a fun x => (x.popped rest).stage seg

/-- A MARK at the head completes OK with 0 periods, or releases its reservation if QUIET, leaves the
FIFO, and its END_OK replaces the end permission (R25). -/
def completeMark (a : AxisId) (seg : Segment) (rest : List Segment) (s : State) : State :=
  completeOk a seg 0 .zero
    (s.modAxis a fun x => { x.popped rest with endPermission := seg.endOk })

/-- The examination of successive FIFO heads at a staging point (R24). It ends when a record is
staged, arrives or trips the axis, or the FIFO is empty. -/
def examine (a : AxisId) : List Segment → State → State
  | [], s => s
  | seg :: rest, s =>
    if (validate s a seg).isSome then report .badSegment [a] s
    else if seg.rdv then
      match arrive a seg.groupId s with
      | (s', .waits) => s'.modAxis a ({ · with arrival := some seg.groupId })
      | (s', .refused) => report .rdvBroken [a] s'
      | (s', .released) =>
        if seg.isMark then examine a rest (completeMark a seg rest s')
        else stageHead a seg rest s'
    else if seg.isMark then examine a rest (completeMark a seg rest s)
    else stageHead a seg rest s

/-- A staging point examines the FIFO, except while a stop is pending (R23). It occurs only while
nothing is staged (R11) and no head has arrived (R80). -/
def stagingPoint (a : AxisId) (s : State) : State :=
  let x := s.axis a
  if x.pendingStop.isNone && x.staged.isNone && x.arrival.isNone then examine a x.fifo s else s

/-! ### Releases (R26, R27) -/

/-- The sequencer takes a release sent to it. Before the axis's next valley it goes on as if the head
had carried no RDV (R26); in WAIT_RDV a MARK completes and the axis enters STARVED, and another head
sets the released mark (R27). While a stop is pending the examination does not resume (R26). -/
def takeRelease (a : AxisId) (s : State) : State :=
  let x := s.axis a
  if !x.releaseSent then s
  else
    let taken := s.setAxis a { x with releaseSent := false }
    match x.arrival, x.fifo with
    | some _, seg :: rest =>
      let s1 := taken.modAxis a ({ · with arrival := none })
      if x.state = .waitRdv then
        if seg.isMark then
          (completeMark a seg rest s1).modAxis a ({ · with state := .starved, grace := 0 })
        else s1.modAxis a ({ · with released := true })
      else if x.state.isActive then
        if seg.isMark then
          let s2 := completeMark a seg rest s1
          if x.pendingStop.isNone then examine a rest s2 else s2
        else stageHead a seg rest s1
      else taken
    | _, _ => taken

/-! ### The peak (R23) -/

/-- The sequencer's work at a peak of an active axis, by state (R7, R22, R23, R27). -/
def sequencerPeak (a : AxisId) (s : State) : State :=
  let x := s.axis a
  match x.state with
  | .run =>
    match x.active with
    | some g =>
      if g.index + 1 < g.seg.periods.toNat then s.modAxis a (·.request g.seg (g.index + 1))
      else stagingPoint a s
    | none => s
  | .precharge => if x.endsPrecharge then stagingPoint a s else s
  | .starved => stagingPoint a s
  | .waitRdv =>
    match x.released, x.fifo with
    | true, seg :: rest =>
      (stageHead a seg rest s).modAxis a ({ · with released := false })
    | _, _ => s
  | .idle | .tripped => s

/-! ### Skips (R41, R150) -/

/-- The ring's consumer index is set to its producer index (R150). -/
def Axis.skipped (x : Axis) : Axis := { x with consumer := x.producer }

/-! ### Stops (R38 to R40) -/

/-- The records an axis holds beyond the active one, completed FLUSHED: the staged record, then the
FIFO in ring order (R38, R39). -/
def flushedRecords (a : AxisId) (x : Axis) : List Completion :=
  (x.staged.toList ++ x.fifo).map (unplayed a .flushed .none)

/-- A pending stop takes effect at its valley (R38): departure, IDLE, flush, skip, completion. -/
def pendingStopEffect (a : AxisId) (tag : Half) (s : State) : State :=
  let s1 := depart a s
  let x := s1.axis a
  handOff (flushedRecords a x ++ [adminCompletion tag .ok .none (.stopAxis x.occupancy)])
    (markStale a (s1.setAxis a (x.stopped .idle).skipped))

/-- A pending stop takes effect at the axis's next valley: every valley but one within a segment (R38). -/
def Axis.stopDue (x : Axis) : Bool :=
  x.pendingStop.isSome &&
    !(x.state == .run && x.active.any fun g => decide (g.index + 1 < g.seg.periods.toNat))

/-- The completion of an active segment that an IMMEDIATE stop ends: ABORTED, periods begun (R39). -/
def abortedSegment (a : AxisId) (x : Axis) : List Completion :=
  x.active.toList.map fun g =>
    segmentCompletion a g.seg .aborted .none (g.index + 1) g.stats

/-- An IMMEDIATE stop of an active axis takes effect at once, pre-empting a pending one; the
completions are in the order of R40 (R39, R40). -/
def immediateStop (a : AxisId) (tag : Half) (s : State) : State :=
  let s1 := depart a s
  let x := s1.axis a
  handOff (abortedSegment a x ++ flushedRecords a x ++
      (x.pendingStop.toList.map fun t => adminCompletion t .ok .preempted (.stopAxis 0)) ++
      [adminCompletion tag .ok .none (.stopAxis x.occupancy)])
    (markStale a (s1.setAxis a (x.stopped .idle).skipped))

/-! ### The valley (R28 to R31) -/

/-- The staged record becomes the active segment (R13, R29 case 2). -/
def Axis.activate (x : Axis) (seg : Segment) : Axis :=
  { x with state := .run, active := some ⟨seg, 0, .fresh⟩, staged := none
           endPermission := seg.endOk, grace := 0, released := false }

/-- The run ends without a fault: IDLE, the FIFO completed FLUSHED, the ring untouched (R30). -/
def runEnd (a : AxisId) (s : State) : State :=
  let x := s.axis a
  handOff (x.fifo.map (unplayed a .flushed .none)) (markStale a (s.setAxis a (x.stopped .idle)))

/-- The grace step (R31): STARVED is entered with grace 0, or a starved period is counted; at G or
above UNDERRUN is reported. -/
def graceStep (a : AxisId) (s : State) : State :=
  let x := s.axis a
  let grace := if x.state = .starved then x.grace + 1 else 0
  let s1 := s.setAxis a { x with state := .starved, grace := grace }
  if x.config.g ≤ grace then report .underrun [a] s1 else s1

/-- The cases of the boundary decision, in order, after the closing completion (R29). -/
def boundaryCases (a : AxisId) (s : State) : State :=
  let x := s.axis a
  match x.pendingStop, x.staged with
  | some tag, _ => pendingStopEffect a tag s
  | none, some seg => s.setAxis a (x.activate seg)
  | none, none =>
    if x.arrival.isSome || x.state == .waitRdv then s.setAxis a { x with state := .waitRdv, grace := 0 }
    else if x.endPermission then runEnd a s
    else graceStep a s

/-- The active segment reaches its closing valley: OK with n periods, or its reservation is released
if it is QUIET (R14, R29). -/
def closeActive (a : AxisId) (s : State) : State :=
  match (s.axis a).active with
  | some g =>
    completeOk a g.seg g.seg.periods.toNat g.stats (s.modAxis a ({ · with active := none }))
  | none => s

/-- The sequencer's part of a valley (R28): a period of the active segment or of precharge advances,
or the boundary decision is taken. -/
def sequencerValley (a : AxisId) (s : State) : State :=
  let x := s.axis a
  match x.state with
  | .run =>
    match x.active with
    | some g =>
      if g.index + 1 < g.seg.periods.toNat then
        s.setAxis a { x with active := some { g with index := g.index + 1 } }
      else boundaryCases a (closeActive a s)
    | none => boundaryCases a s
  | .precharge =>
    if x.endsPrecharge then boundaryCases a s
    else match x.pendingStop with
      | some tag => pendingStopEffect a tag s
      | none => s.setAxis a { x with prechargeIndex := x.prechargeIndex + 1 }
  | .starved | .waitRdv => boundaryCases a s
  | .idle | .tripped => s

end Sys2Proof.Machine
end

