-- ==== Sys2Proof/Machine/Protection.lean ====
section
/-! DEFINITION. The protection unit (chapter 6): what a report of a trip cause does, the trip of an
active axis, the inputs, and the removal of a trip record. -/

namespace Sys2Proof.Machine

/-- The completions of a trip, in the order of R33: the active segment with its periods begun, the
staged record, the FIFO in ring order, the pending stop. For BAD_SEGMENT the FIFO head that fails
validation stands in its place with status INVALID (R11; log entry 12). -/
def tripCompletions (s : State) (a : AxisId) (cause : TripCause) : List Completion :=
  let x := s.axis a
  (x.active.toList.map fun g =>
      segmentCompletion a g.seg .tripped (.trip cause) (g.index + 1) g.stats) ++
    x.staged.toList.map (unplayed a .tripped (.trip cause)) ++
    (match x.fifo with
      | [] => []
      | seg :: rest =>
        (match cause, validate s a seg with
          | .badSegment, some detail => unplayed a .invalid detail seg
          | _, _ => unplayed a .tripped (.trip cause) seg) ::
          rest.map (unplayed a .tripped (.trip cause))) ++
    x.pendingStop.toList.map fun tag => adminCompletion tag .tripped (.trip cause) (.stopAxis 0)

/-- The axis as a trip leaves it: TRIPPED with a new trip record, holding nothing, precharge index and
grace counter 0 (R33, R96, R99). -/
def Axis.trip (x : Axis) (cause : TripCause) (now : Word) : Axis :=
  { x.stopped .tripped with
      tripRecord := some ⟨cause, now, 0⟩, prechargeIndex := 0, grace := 0 }

/-- The trip of an active axis, one event in the order of R96. The outputs follow the new state
through the leg demand (R52, R58). -/
def tripAxis (a : AxisId) (cause : TripCause) (s : State) : State :=
  let completions := tripCompletions s a cause
  let s1 := markStale a (s.setAxis a ((s.axis a).trip cause s.timebase))
  raise .trip (breakGroups a (handOff completions s1))

/-- A cause joins the later-cause set of a trip record (R100). -/
def TripRecord.addLater (t : TripRecord) (cause : TripCause) : TripRecord :=
  { t with later := t.later ||| causeBit cause }

/-- A report taken, by the axis state at that instant (R95). A TRIPPED axis takes any cause as a later one,
whether R100 lists it or not (DEDUCED, log entry 32). In RESETTING and while RESETn is low a report changes
nothing (R115). -/
def takeReport (r : Report) (s : State) : State :=
  if !s.live then s
  else match (s.axis r.axis).state with
    | .precharge | .run | .starved | .waitRdv => tripAxis r.axis r.cause s
    | .tripped =>
      s.modAxis r.axis fun x => { x with tripRecord := x.tripRecord.map (·.addLater r.cause) }
    | .idle => s

/-- A report in flight, or one of the world's, is taken for its axis: AXIS_TRIP (R95, R96). -/
def takeAxisReport (r : Report) (s : State) : State :=
  if s.live then takeReport r { s with reports := s.reports.erase r } else s

/-- The reports in flight that p names are taken one at a time, in a free order (R95). -/
def takeInFlight (p : Report → Bool) (s : State) : State :=
  let due := s.reports.filter p
  takeInOrder takeAxisReport due.length due s

/-- A part of an event whose own reports, of the one axis it concerns, are taken at its instant (R31, R11,
R88). The reports those trips lead to are in flight after it, like every report of several axes: R95
trips these axes each at its own instant (log entry 10). -/
def takingOwn (f : State → State) (s : State) : State :=
  let t := f { s with reports := [] }
  t.reports.foldl (fun u r => takeReport r u) { t with reports := s.reports }

/-- The reports made are taken one at a time, in a free order, with those they lead to, until none is
left or the bound is reached. -/
def takeReportsUpTo : Nat → State → State
  | 0, s => s
  | bound + 1, s =>
    match pickNext s.freeCount s.reports with
    | none => s
    | some (r, rest) =>
      let count := if rest = [] then s.freeCount else s.freeCount + 1
      takeReportsUpTo bound (takeReport r { s with reports := rest, freeCount := count })

/-- All reports made in this event are taken within it: the trips of a quiesce (R194). Each of the eight
groups breaks at most once and then reports at most four axes, so 32 more than the reports made is
enough (R86). -/
def takeReports (s : State) : State := takeReportsUpTo (s.reports.length + 32) s

/-- A stop that takes effect, at once (R39) or at its valley (R38), finds what a group has already sent to its
axis taken: a departing axis has neither been released nor lost its group (R90). The trip of a timeout or
break in flight comes first (log entry 30), then a release on its way (log entry 6). -/
def finishGroup (a : AxisId) (s : State) : State :=
  takingOwn (takeRelease a)
    (takeInFlight (fun r => r.axis == a && (r.cause == .rdvTimeout || r.cause == .rdvBroken)) s)

/-! ### The inputs (R102 to R105) -/

/-- A trip pin becomes active: a change of level reports PIN for its axis (R102). A pin that is active
already makes no report (R100). -/
def pinBecomesActive (a : AxisId) (s : State) : State :=
  if (s.axis a).pinActive then s
  else takeReport ⟨a, .pin⟩ (s.modAxis a ({ · with pinActive := true }))

/-- A trip pin becomes inactive: only its level changes (R102). -/
def pinBecomesInactive (a : AxisId) (s : State) : State :=
  s.modAxis a ({ · with pinActive := false })

/-- The emergency input becomes active: every leg demands neither side through R52, and EMERGENCY is
reported for each of the four axes (R104), which trip each at its own instant (R95). In RESETTING and
under reset no cause is reported (R104, R115). -/
def emergencyBecomesActive (s : State) : State :=
  if s.emergency then s
  else
    let s1 := { s with emergency := true }
    if s.live then report .emergency axisIds s1 else s1

/-- The emergency input becomes inactive: only its level changes, and the legs follow (R105). No axis is
active then (R59): an EMERGENCY report still in flight is taken first (log entry 30). -/
def emergencyBecomesInactive (s : State) : State :=
  { takeInFlight (·.cause == .emergency) s with emergency := false }

end Sys2Proof.Machine
end

