-- ==== Sys2Proof/Machine/Measurement.lean ====
section
/-! DEFINITION. The measurement unit (chapter 7): the request queue and the converter, axis results
and the overcurrent run, bus results and the bus fault flags. -/

namespace Sys2Proof.Machine

/-! ### The queue and the converter (R116, R117) -/

/-- The progress of a request whose conversion has just begun (R117). -/
def ConvSource.firstProgress : ConvSource → Progress
  | .axis _ => .convertingU
  | .bus => .convertingBus

/-- The request starts converting (R117). -/
def ConvRequest.begin (q : ConvRequest) : ConvRequest := { q with progress := q.source.firstProgress }

/-- The source has a request in the queue (R116). -/
def Measurement.occupied (m : Measurement) (src : ConvSource) : Bool :=
  m.queue.any fun q => q.source == src

/-- A request joins the tail; at an empty queue its conversion begins at once (R117). -/
def Measurement.join (m : Measurement) (src : ConvSource) : Measurement :=
  match m.queue with
  | [] => { m with queue := [⟨src, false, src.firstProgress⟩], elapsed := 0 }
  | q :: rest => { m with queue := q :: rest ++ [⟨src, false, .waiting⟩] }

/-- The head's result is taken: it leaves the queue and the next request begins converting (R117). -/
def Measurement.dropHead (m : Measurement) : Measurement :=
  match m.queue with
  | [] => m
  | [_] => { m with queue := [], elapsed := 0 }
  | _ :: q :: rest => { m with queue := q.begin :: rest, elapsed := 0 }

/-- The leg U conversion of the head ends and the leg V current is sampled (R117). -/
def Measurement.endLegU (m : Measurement) : Measurement :=
  match m.queue with
  | q :: rest =>
    if q.progress = .convertingU then { m with queue := { q with progress := .convertingV } :: rest, elapsed := 0 }
    else m
  | [] => m

/-- A skipped sample counts in the active segment, stopping at 255; with none it counts nowhere
(R120, R129). -/
def ActiveSegment.countSkip (g : ActiveSegment) : ActiveSegment :=
  { g with stats := { g.stats with skipped := min 255 (g.stats.skipped + 1) } }

/-- The sampling request of a peak: it joins the queue, or is dropped and counted as a skipped sample
while its source is occupied (R118, R120). Outside RUNNING there is none (R130), also at a peak of an axis
that a POST_FAULT report has not reached yet (log entry 31). -/
def axisRequest (a : AxisId) (s : State) : State :=
  if s.part != .running then s
  else if s.meas.occupied (.axis a) then
    s.modAxis a fun x => { x with active := x.active.map (·.countSkip) }
  else { s with meas := s.meas.join (.axis a) }

/-- A bus request joins the queue, or is dropped uncounted (R119, R120). -/
def busRequest (s : State) : State :=
  if s.meas.occupied .bus then s else { s with meas := s.meas.join .bus }

/-- Expiry of the running bus interval timer: a bus request, and the timer is loaded again (R119). -/
def busTimerExpires (s : State) : State :=
  if s.live && s.meas.busTimer.isSome then
    let s' := busRequest s
    { s' with meas := { s'.meas with busTimer := some Config.busInterval } }
  else s

/-- LEG_U_CONVERSION_END (R117). Nothing is converted in RESETTING (R130). -/
def legUEnds (s : State) : State := if s.live then { s with meas := s.meas.endLegU } else s

/-! ### Axis results (R122, R123) -/

/-- The magnitude |code − 2048| of a current sample (section 4.4 of the scope file, R122). -/
def magnitude (code : BitVec 12) : Nat := (2048 - code.toNat) + (code.toNat - 2048)

/-- The larger magnitude of an axis result goes to the active segment's peak current (R122, R129). -/
def ActiveSegment.foldPeak (mag : Nat) (g : ActiveSegment) : ActiveSegment :=
  { g with stats := { g.stats with peakCurrent := max g.stats.peakCurrent mag } }

/-- The overcurrent run after a processed result (R123). -/
def nextRun (exceeded : Bool) (run : Nat) : Nat := if exceeded then min 8 (run + 1) else 0

/-- A processed axis result: statistics first, then the run counter (R122). -/
def Axis.axisResult (x : Axis) (magU magV : Nat) : Axis :=
  { x with active := x.active.map (·.foldPeak (max magU magV))
           overcurrentRun := nextRun (decide (x.config.currentLimit < max magU magV)) x.overcurrentRun }

/-- A processed axis result reports OVERCURRENT when the run counter has reached N (R122, R123). -/
def processAxisResult (a : AxisId) (magU magV : Nat) (s : State) : State :=
  let x := (s.axis a).axisResult magU magV
  let s1 := s.setAxis a x
  if x.config.n ≤ x.overcurrentRun then takeReport ⟨a, .overcurrent⟩ s1 else s1

/-- AXIS_RESULT: the result of the axis request at the head, at the end of its leg V conversion (R117). A
stale one, or one whose axis is not active, is discarded (R122), and so is every one outside RUNNING
(R130), also that of an axis which a POST_FAULT report has not reached yet (log entry 31). Where the head is
not converting leg V no result comes, and nothing happens (log entry 8). -/
def takeAxisResult (codeU codeV : BitVec 12) (s : State) : State :=
  if !s.live then s
  else match s.meas.queue with
    | q :: _ =>
      match q.source, q.progress with
      | .axis a, .convertingV =>
        let s1 := { s with meas := s.meas.dropHead }
        if q.stale || !s.activeAxis a || s.part != .running then s1
        else processAxisResult a (magnitude codeU) (magnitude codeV) s1
      | _, _ => s
    | [] => s

/-! ### Bus results (R125 to R127) -/

/-- A bus code is folded into a segment's bus extremes (R129). -/
def ActiveSegment.foldBus (code : Nat) (g : ActiveSegment) : ActiveSegment :=
  { g with stats := { g.stats with busMin := min g.stats.busMin code, busMax := max g.stats.busMax code } }

/-- The bus code goes to every axis with an active segment (R125, step 1). -/
def foldBusCode (code : Nat) (s : State) : State :=
  axisIds.foldl (fun s a => s.modAxis a fun x => { x with active := x.active.map (·.foldBus code) }) s

/-- What a processed bus code makes of one fault flag: set when the run is at F or above, cleared when
the code lies within the limit, else kept (R126, R127). -/
def nextFlag (out : Bool) (run f : Nat) (flag : Bool) : Bool :=
  if !out then false else if f ≤ run then true else flag

/-- BUS_RESULT's processing in the order of R125: extremes, run counters, flags; a flag becoming set
reports its cause for all four axes (R106, R126, R127), which trip each at its own instant (R95). -/
def processBusResult (code : Nat) (s : State) : State :=
  let s1 := foldBusCode code s
  let ovOut := decide (s.globals.ovLimit < code)
  let uvOut := decide (code < s.globals.uvLimit)
  let ovRun := nextRun ovOut s.meas.ovRun
  let uvRun := nextRun uvOut s.meas.uvRun
  let ovFlag := nextFlag ovOut ovRun s.globals.f s.ovFlag
  let uvFlag := nextFlag uvOut uvRun s.globals.f s.uvFlag
  let s2 := { s1 with meas := { s1.meas with ovRun := ovRun, uvRun := uvRun }
                      ovFlag := ovFlag, uvFlag := uvFlag }
  let s3 := if ovFlag && !s.ovFlag then report .busOvervolt axisIds s2 else s2
  if uvFlag && !s.uvFlag then report .busUndervolt axisIds s3 else s3

/-- BUS_RESULT: the result of the bus request at the head, at the end of its conversion (R117), processed in
every part state but RESETTING (R125, R130). -/
def takeBusResult (code : BitVec 12) (s : State) : State :=
  if !s.live then s
  else match s.meas.queue with
    | q :: _ =>
      match q.source, q.progress with
      | .bus, .convertingBus => processBusResult code.toNat { s with meas := s.meas.dropHead }
      | _, _ => s
    | [] => s

end Sys2Proof.Machine
end

