-- ==== Sys2Proof/Machine/Completions.lean ====
section
/-! DEFINITION. The completion unit (chapter 9): posting, coalescing, the consumer index, and entry
into FAILED when a completion write fails. -/

namespace Sys2Proof.Machine

/-- A port timeout of 0 loads no counter (R199). -/
def loadCounter (timeout : Nat) : Option Nat := if timeout = 0 then none else some timeout

/-! ### The write channel (R158) -/

/-- The write channel's arbiter issues a write when the channel is free and a claimant waits: a
snapshot first, else the head of the pending queue with the lap value in force. Nothing is issued in
FAILED or RESETTING (R158, R161, R168, R188). A slot address past FFFFFFFFh wraps (DESIGN CHOICE, log
entry 28). -/
def issueWrite (s : State) : State :=
  if s.writeTxn.isSome || s.part == .resetting || s.part == .failed then s
  else
    let counter := loadCounter s.globals.writeTimeout
    match s.admin.snapshot with
    | some ⟨address, data, formedAt, false⟩ =>
      { s with writeTxn := some ⟨.snapshot, address, data, counter⟩
               admin := { s.admin with snapshot := some ⟨address, data, formedAt, true⟩ } }
    | _ =>
      match s.comp.queue with
      | c :: _ =>
        let slot := s.comp.ringBase + BitVec.ofNat 32 (16 * s.comp.producer)
        { s with writeTxn := some ⟨.completion, slot, completionBytes s.comp.lap c, counter⟩ }
      | [] => s

/-! ### Coalescing (R164, R165) -/

/-- COMPLETION is raised, the counter set to 0 and the timer stopped (R164, R165). -/
def signalCompletions (s : State) : State :=
  raise .completion { s with comp := { s.comp with coalescingCount := 0, coalescingTimer := none } }

/-- The coalescing rules applied to the status of a record just written (R164, R165). -/
def coalesce (status : Status) (s : State) : State :=
  if status = .ok then
    let count := s.comp.coalescingCount + 1
    let timer := if count = 1 ∧ s.globals.w ≠ 0 then some s.globals.w else s.comp.coalescingTimer
    let s' := { s with comp := { s.comp with coalescingCount := count, coalescingTimer := timer } }
    if s.globals.k ≤ count then signalCompletions s' else s'
  else signalCompletions s

/-- Expiry of the running coalescing timer (R164). -/
def coalescingExpires (s : State) : State :=
  if s.live && s.comp.coalescingTimer.isSome then signalCompletions s else s

/-! ### The response to a completion write -/

/-- The producer index after a record is written, and the lap value, which flips on the wrap (R159). -/
def CompletionUnit.advance (c : CompletionUnit) : CompletionUnit :=
  { c with producer := nextIndex c.ringSize c.producer
           lap := if c.ringSize ≤ c.producer + 1 then !c.lap else c.lap }

/-- An OK response: the head is removed, the producer index advances, the head's reservation is
released and coalescing is applied (R159). -/
def postHead (s : State) : State :=
  match s.comp.queue with
  | [] => s
  | c :: rest =>
    let s' := { s with comp := { s.comp.advance with queue := rest } }
    coalesce c.status (releaseReservations 1 s')

/-- COMPLETION_WRITE_OK for the completion write outstanding. In RESETTING the outcome is discarded
(R196); in FAILED nothing is posted (R161). A response that belongs to no outstanding completion write
is discarded (R199; log entry 13). -/
def completionOk (s : State) : State :=
  match s.writeTxn with
  | some ⟨.completion, _, _, _⟩ =>
    let s' := { s with writeTxn := none }
    if s.part = .resetting ∨ s.part = .failed then s' else postHead s'
  | _ => s

/-- The pending queue is emptied without writing, each entry releasing its reservation, and coalescing
stops (R161). -/
def discardPending (s : State) : State :=
  let n := s.comp.queue.length
  releaseReservations n
    { s with comp := { s.comp with queue := [], coalescingCount := 0, coalescingTimer := none } }

/-- A READ_AXIS whose write has not been issued completes WRITE_FAULT on entry to FAILED, and its
completion is discarded: its reservation is released and the unit is WAITING again (R161, R188). -/
def abandonSnapshot (s : State) : State :=
  match s.admin.snapshot with
  | some ⟨_, _, _, false⟩ =>
    releaseReservations 1
      { s with admin := { s.admin with state := .waiting, current := none, snapshot := none } }
  | _ => s

/-- The part enters FAILED, in the order of R195; POST_FAULT is reported for all four axes (R109), which
trip each at its own instant (R95). -/
def enterFailed (s : State) : State :=
  let s1 := abandonSnapshot (discardPending { s with part := .failed })
  let s2 := raise .failed { s1 with meas := { s1.meas with busTimer := none } }
  report .postFault axisIds s2

/-- A completion write resolves with an error or a timeout: the fault is recorded and the part enters
FAILED (R160). In RESETTING the outcome is discarded (R168, R196). -/
def completionFails (kind : FaultKind) (s : State) : State :=
  match s.writeTxn with
  | some ⟨.completion, _, _, _⟩ =>
    let s' := { s with writeTxn := none }
    if s.part = .resetting then s' else enterFailed (recordFault (.transaction .completion kind) s')
  | _ => s

/-! ### The consumer index (R162) -/

/-- A host write to CCONS (R162). Register writes are ignored in RESETTING and while RESETn is low
(R189). -/
def writeCcons (value : Word) (s : State) : State :=
  let v := value.toNat
  if !s.live then s
  else if s.comp.ringSize ≤ v then recordFault .index s
  else if s.comp.posted < occupancyOf s.comp.ringSize v s.comp.consumer then recordFault .index s
  else { s with comp := { s.comp with consumer := v } }

end Sys2Proof.Machine
end

