-- ==== Sys2Proof/Machine/Admin.lean ====
section
/-! DEFINITION. The admin unit (chapter 10): acceptance, checking and execution of the nine commands,
waits for a read of the axis ring, halts and restart. -/

namespace Sys2Proof.Machine

/-! ### The end of execution (R174) -/

/-- Execution ends and the unit is WAITING at that instant (R174). -/
def endExecution (s : State) : State :=
  { s with admin := { s.admin with state := .waiting, current := none, snapshot := none } }

/-- A command's completion is handed over and its execution ends (R173, R174). -/
def finishCommand (tag : Half) (status : Status) (detail : Detail) (result : AdminResult)
    (s : State) : State :=
  endExecution (handOff [adminCompletion tag status detail result] s)

/-- INVALID with BAD_PARAMETER (R173, check 2). -/
def badParameter (tag : Half) (s : State) : State := finishCommand tag .invalid .badParameter .zero s

/-- REFUSED with a reason and a zero result (R173, check 3). -/
def refuse (tag : Half) (reason : Detail) (s : State) : State :=
  finishCommand tag .refused reason .zero s

/-! ### SET_COMPLETION_RING (R178, R163) -/

/-- The conditions of R178: every axis IDLE, nothing posted, and no reservation but the command's own. -/
def completionRingFree (s : State) : Bool :=
  axisIds.all (fun a => (s.axis a).state == .idle) && s.comp.posted == 0 &&
    s.comp.reservations == (if s.comp.ringSize = 0 then 0 else 1)

/-- The move to the new ring (R163): the reservation held on the old ring is released and one is taken
on the new ring. -/
def CompletionUnit.moveTo (c : CompletionUnit) (base : Word) (size : Nat) : CompletionUnit :=
  { c with ringBase := base, ringSize := size, producer := 0, consumer := 0, lap := true
           coalescingCount := 0, coalescingTimer := none
           reservations := (if c.ringSize = 0 then c.reservations else c.reservations - 1) + 1 }

/-- SET_COMPLETION_RING (R178). -/
def runSetCompletionRing (tag : Half) (base : Word) (size : Half) (s : State) : State :=
  if !(ringSizeOk size.toNat && alignedTo64 base) then badParameter tag s
  else if !completionRingFree s then refuse tag .ringBusy s
  else finishCommand tag .ok .none .zero { s with comp := s.comp.moveTo base size.toNat }

/-! ### SET_GLOBAL (R180) -/

/-- The argument ranges of R180. -/
def globalsOk (k f : Byte) (ov uv : Half) : Bool :=
  k != 0 && f != 0 && decide (f.toNat ≤ 8) && decide (ov.toNat ≤ 4095) && decide (uv.toNat ≤ 4095)

/-- SET_GLOBAL (R180). -/
def runSetGlobal (tag : Half) (rt wt k f : Byte) (w ov uv : Half) (s : State) : State :=
  if !globalsOk k f ov uv then badParameter tag s
  else finishCommand tag .ok .none .zero
    { s with globals :=
        { readTimeout := rt.toNat, writeTimeout := wt.toNat, k := k.toNat, w := w.toNat
          ovLimit := ov.toNat, uvLimit := uv.toNat, f := f.toNat } }

/-! ### SET_AXIS_RING (R179) -/

/-- The axis ring set up empty at a new place (R136). -/
def Axis.setRing (x : Axis) (base : Word) (size : Nat) : Axis :=
  { x with ringBase := base, ringSize := size, consumer := 0, producer := 0 }

/-- SET_AXIS_RING (R179). -/
def runSetAxisRing (tag : Half) (axis : Byte) (base : Word) (size : Half) (s : State) : State :=
  match axisOfByte axis with
  | none => badParameter tag s
  | some a =>
    if !(ringSizeOk size.toNat && alignedTo64 base) then badParameter tag s
    else if !((s.axis a).state == .idle && (s.axis a).fifo.isEmpty) then refuse tag .wrongState s
    else finishCommand tag .ok .none .zero (s.modAxis a (·.setRing base size.toNat))

/-! ### CONFIGURE_AXIS (R181) -/

/-- The legality conditions 4, 6 and 7 of Table 3-5 on T_boot, the rest being the field widths or
`periodLegal` (R62). -/
def bootLegal (m tBoot : Nat) : Bool := decide (tBoot ≤ 4095) && (tBoot == 0 || decide (m ≤ tBoot))

/-- The configuration that the argument area names, when its arguments are valid (R181, R202). -/
def configOf (d m r : Byte) (h tBoot np g limit : Half) (n pattern : Byte) : Option AxisConfig :=
  if periodLegal h.toNat d.toNat m.toNat tBoot.toNat && bootLegal m.toNat tBoot.toNat &&
      r != 0 && np != 0 && limit != 0 && decide (limit.toNat ≤ 2047) &&
      n != 0 && decide (n.toNat ≤ 8) && decide (pattern.toNat ≤ 1) then
    some { h := h.toNat, d := d.toNat, m := m.toNat, tBoot := tBoot.toNat, r := r.toNat
           np := np.toNat, g := g.toNat, pattern := if pattern = 0 then .allOff else .lowOn
           currentLimit := limit.toNat, n := n.toNat }
  else none

/-- An IDLE axis takes a configuration (R181): the configured flag is set, H goes to the modulator
(R64) and the top-up monitors clear (R76). -/
def Axis.configure (x : Axis) (cfg : AxisConfig) : Axis :=
  { x with config := cfg, configured := true, shadowH := cfg.h, workH := cfg.h
           monitors := .all .reset }

/-- CONFIGURE_AXIS (R181). -/
def runConfigureAxis (tag : Half) (axis d m r : Byte) (h tBoot np g limit : Half)
    (n pattern : Byte) (s : State) : State :=
  match axisOfByte axis, configOf d m r h tBoot np g limit n pattern with
  | some a, some cfg =>
    if (s.axis a).state = .idle then
      finishCommand tag .ok .none .zero (s.modAxis a (·.configure cfg))
    else refuse tag .wrongState s
  | _, _ => badParameter tag s

/-! ### START_AXIS (R182, R183) -/

/-- The conditions of R182, in order; the first that fails gives the refusal. -/
def startRefusal (s : State) (a : AxisId) : Option Detail :=
  let x := s.axis a
  if ¬ (s.part = .running ∧ x.state = .idle) then some .wrongState
  else if !x.configured then some .notConfigured
  else if x.ringSize = 0 then some .noRing
  else if x.pinActive then some .tripActive
  else if s.emergency then some .emergencyActive
  else if s.ovFlag || s.uvFlag then some .busFault
  else none

/-- Entry into PRECHARGE (R21, R183): a valley of a carrier starting from 0, the configured H and
compare 0 loaded, the run's counters cleared. -/
def Axis.start (x : Axis) : Axis :=
  { x with state := .precharge, prechargeIndex := 0, endPermission := false, released := false
           grace := 0, stolenTotal := 0, overcurrentRun := 0
           carrierCount := 0, rising := true
           shadowH := x.config.h, workH := x.config.h
           shadow := .all 0, work := .all 0, shadowOverride := false, workOverride := false }

/-- A report that was made for the axis and not taken yet found it IDLE and has no effect (R95): it does
not reach the run that begins (log entry 30). -/
def dropReports (a : AxisId) (s : State) : State :=
  { s with reports := s.reports.filter (·.axis != a) }

/-- START_AXIS (R182). -/
def runStartAxis (tag : Half) (axis : Byte) (s : State) : State :=
  match axisOfByte axis with
  | none => badParameter tag s
  | some a =>
    match startRefusal s a with
    | some reason => refuse tag reason s
    | none =>
      finishCommand tag .ok .none (.startAxis (s.axis a).consumer (s.axis a).occupancy)
        (dropReports a (s.modAxis a (·.start)))

/-! ### STOP_AXIS (R36, R184) -/

/-- STOP_AXIS answered by the sequencer, by axis state and mode (R36); mode 0 is AT_SEGMENT_END and 1
IMMEDIATE. -/
def answerStop (tag : Half) (a : AxisId) (immediate : Bool) (s : State) : State :=
  let x := s.axis a
  match x.state with
  | .idle => finishCommand tag .ok .none (.stopAxis 0) s
  | .tripped => refuse tag .wrongState s
  | .precharge | .run | .starved | .waitRdv =>
    if immediate then endExecution (immediateStop a tag s)
    else if x.pendingStop.isSome then refuse tag .stopPending s
    else endExecution (s.setAxis a { x with pendingStop := some tag })

/-- STOP_AXIS (R184). An IMMEDIATE stop takes effect at this instant, so what a group has already sent to
the axis is taken before it (R90); an AT_SEGMENT_END stop ends nothing yet (R36, R37, R43). -/
def runStopAxis (tag : Half) (axis mode : Byte) (s : State) : State :=
  match axisOfByte axis with
  | none => badParameter tag s
  | some a =>
    if 1 < mode.toNat then badParameter tag s
    else
      let immediate := mode == 1
      answerStop tag a immediate (if immediate && s.activeAxis a then finishGroup a s else s)

/-! ### CLEAR_FAULT (R110 to R113, R185) -/

/-- The conditions of R110, in order. -/
def clearRefusal (s : State) (a : AxisId) : Option Detail :=
  let x := s.axis a
  if x.state ≠ .tripped then some .wrongState
  else if x.pinActive then some .tripActive
  else if s.emergency then some .emergencyActive
  else none

/-- A cleared axis (R111): no trip record, overcurrent run 0, IDLE. -/
def Axis.clear (x : Axis) : Axis := { x with tripRecord := none, overcurrentRun := 0, state := .idle }

/-- CLEAR_FAULT (R185); disposition 0 is RESUME and 1 FLUSH (R112). A TRIPPED axis always has a trip
record (R99); for one without, see log entry 21. -/
def runClearFault (tag : Half) (axis disposition : Byte) (s : State) : State :=
  match axisOfByte axis with
  | none => badParameter tag s
  | some a =>
    if 1 < disposition.toNat then badParameter tag s
    else match clearRefusal s a with
      | some reason => refuse tag reason s
      | none =>
        let x := s.axis a
        let detail := match x.tripRecord with
          | some t => Detail.trip t.first
          | none => .none
        let timestamp := (x.tripRecord.map (·.timestamp)).getD 0
        let later := (x.tripRecord.map (·.later)).getD 0
        let flush := disposition == 1
        let x' := if flush then x.clear.skipped else x.clear
        finishCommand tag .ok detail
          (.clearFault timestamp later (if flush then x.occupancy else 0)) (s.setAxis a x')

/-! ### DEFINE_GROUP (R91, R92, R186) -/

/-- A group defined anew; the generation is kept (R91). -/
def Group.define (x : Group) (members : BitVec 4) (timeout : Nat) : Group :=
  { x with members := members, timeout := timeout, state := .idle, arrived := 0, timer := none }

/-- DEFINE_GROUP (R186). A trip that the group's timeout or break has reported may still be in flight: taken
later it finds the group as it is then, IDLE or GATHERING anew, and may break it (DESIGN CHOICE, log
entry 33). -/
def runDefineGroup (tag : Half) (group members : Byte) (timeout : Half) (s : State) : State :=
  match groupOfByte group with
  | none => badParameter tag s
  | some g =>
    if timeout = 0 then badParameter tag s
    else
      let x := s.group g
      let result := AdminResult.defineGroup x.state x.generation
      if x.state = .gathering then finishCommand tag .refused .groupBusy result s
      else finishCommand tag .ok .none result
        (s.setGroup g (x.define (members.extractLsb' 0 4) timeout.toNat))

/-! ### READ_AXIS (R187) -/

/-- READ_AXIS forms the snapshot at the instant it is taken and claims the write channel (R187, R188). -/
def runReadAxis (tag : Half) (axis : Byte) (address : Word) (s : State) : State :=
  match axisOfByte axis with
  | none => badParameter tag s
  | some a =>
    if !alignedTo64 address then badParameter tag s
    else { s with admin := { s.admin with
             snapshot := some ⟨address, snapshotBytes s a, s.timebase, false⟩ } }

/-! ### Checking and executing (R173, R174) -/

/-- A command is checked and takes its effect at this instant (R173). -/
def runCommand (c : AdminCommand) (s : State) : State :=
  match c.body with
  | .setCompletionRing base size => runSetCompletionRing c.tag base size s
  | .setGlobal rt wt k f w ov uv => runSetGlobal c.tag rt wt k f w ov uv s
  | .setAxisRing axis base size => runSetAxisRing c.tag axis base size s
  | .configureAxis axis d m r h tBoot np g limit n pattern =>
    runConfigureAxis c.tag axis d m r h tBoot np g limit n pattern s
  | .startAxis axis => runStartAxis c.tag axis s
  | .stopAxis axis mode => runStopAxis c.tag axis mode s
  | .clearFault axis disposition => runClearFault c.tag axis disposition s
  | .defineGroup group members timeout => runDefineGroup c.tag group members timeout s
  | .readAxis axis address => runReadAxis c.tag axis address s
  | .unknown _ => finishCommand c.tag .invalid .badOpcode .zero s

/-- The axis whose ring read a START_AXIS, CLEAR_FAULT or SET_AXIS_RING waits for (R149). -/
def AdminCommand.ringAxis (c : AdminCommand) : Option AxisId :=
  match c.body with
  | .setAxisRing axis _ _ => axisOfByte axis
  | .startAxis axis => axisOfByte axis
  | .clearFault axis _ => axisOfByte axis
  | _ => none

/-- A read of axis a's ring is in flight (R143). -/
def State.readInFlight (s : State) (a : AxisId) : Bool :=
  match s.readTxn with
  | some t => t.ring == .axis a
  | none => false

/-- The command waits: the axis it names is IDLE or TRIPPED and a read of its ring is in flight (R174). -/
def mustWait (c : AdminCommand) (s : State) : Bool :=
  match c.ringAxis with
  | some a => !s.activeAxis a && s.readInFlight a
  | none => false

/-- An accepted command is executed, or waits for its read to resolve (R174). -/
def beginCommand (c : AdminCommand) (s : State) : State :=
  if mustWait c s then s else runCommand c s

/-- The command that waited for axis a's read is tested and takes effect once the read has resolved
(R149, R174). -/
def resumeCommand (a : AxisId) (s : State) : State :=
  match s.admin.state, s.admin.current with
  | .executing, some c => if c.ringAxis = some a then runCommand c s else s
  | _, _ => s

/-! ### Acceptance (R172, R176) -/

/-- The admin unit enters HALTED, whatever the reason, and ADMIN_HALT is raised (R171). -/
def haltAdmin (reason : HaltReason) (s : State) : State :=
  raise .adminHalt { s with admin := { s.admin with state := .halted, haltReason := reason } }

/-- The command is a SET_COMPLETION_RING (R176). -/
def AdminCommand.movesRing (c : AdminCommand) : Bool :=
  match c.body with
  | .setCompletionRing _ _ => true
  | _ => false

/-- The admin unit accepts a record: it becomes the current command and the admin consumer index
advances past its slot (R172). The index never passes the producer index (R134; log entries 7 and 22). -/
def acceptCommand (c : AdminCommand) (s : State) : State :=
  let u := s.admin
  let index := if u.occupancy = 0 then u.consumer else nextIndex u.ringSize u.consumer
  beginCommand c
    { s with admin := { u with state := .executing, current := some c, consumer := index } }

/-- An administrative record handed to the unit by an OK return, by Table R172: dropped outside
RUNNING, halted on with no completion ring, else accepted. -/
def returnedCommand (c : AdminCommand) (reserved : Bool) (s : State) : State :=
  if s.part ≠ .running then
    { (if reserved then releaseReservations 1 s else s) with admin := { s.admin with state := .waiting } }
  else if s.comp.ringSize = 0 ∧ ¬ c.movesRing then haltAdmin .noCompletionRing s
  else acceptCommand c s

/-- A row that IS an administrative command: the command reaches the admin unit. Where a read of the
administrative ring is in flight, this is its OK return carrying the command. Where the unit is WAITING
in RUNNING and a reservation could be taken (R139), the issue and return of the read are folded into
this one event. A unit that is EXECUTING or HALTED takes no command (R174, R175; log entry 7). -/
def takeCommand (c : AdminCommand) (s : State) : State :=
  if !s.live then s
  else match s.admin.state with
    | .fetching =>
      match s.readTxn with
      | some t => if t.ring = .admin then returnedCommand c t.reserved { s with readTxn := none } else s
      | none => s
    | .waiting =>
      if s.part = .running then
        if s.comp.ringSize = 0 then returnedCommand c false s
        else if s.grantable then returnedCommand c true (takeReservation s)
        else s
      else s
    | .executing | .halted => s

/-! ### Restart (R175) -/

/-- ADMIN_RESTART at the admin unit: HALTED becomes WAITING; in any other state nothing (R175). -/
def restartAdmin (s : State) : State :=
  if s.admin.state = .halted then
    { s with admin := { s.admin with state := .waiting, haltReason := .none } }
  else s

/-! ### The snapshot write's response (R188) -/

/-- The tag of the command in execution. -/
def AdminUnit.currentTag (u : AdminUnit) : Half := (u.current.map (·.tag)).getD 0

/-- A snapshot write resolves OK: READ_AXIS completes OK with the formation time (R188). In RESETTING
the outcome is discarded (R196). -/
def snapshotOk (s : State) : State :=
  match s.writeTxn, s.admin.snapshot with
  | some ⟨.snapshot, _, _, _⟩, some work =>
    let s' := { s with writeTxn := none }
    if s.part = .resetting then s'
    else finishCommand s.admin.currentTag .ok .none (.readAxis work.formedAt) s'
  | some ⟨.snapshot, _, _, _⟩, none => { s with writeTxn := none }
  | _, _ => s

/-- A snapshot write resolves with an error or a timeout: the fault is recorded and READ_AXIS completes
WRITE_FAULT (R188). In RESETTING the outcome is discarded (R196). -/
def snapshotFails (kind : FaultKind) (s : State) : State :=
  match s.writeTxn, s.admin.snapshot with
  | some ⟨.snapshot, _, _, _⟩, some _ =>
    let s' := { s with writeTxn := none }
    if s.part = .resetting then s'
    else finishCommand s.admin.currentTag .writeFault .none .zero
      (recordFault (.transaction .snapshot kind) s')
  | some ⟨.snapshot, _, _, _⟩, none => { s with writeTxn := none }
  | _, _ => s

end Sys2Proof.Machine
end

