-- ==== Sys2Proof/Machine/Queue.lean ====
section
/-! DEFINITION. The queue engine (chapter 8): producer index writes, eligibility, the read arbiter, and
the returns of reads. -/

namespace Sys2Proof.Machine

/-! ### Producer index writes (R135) -/

/-- Size, producer index and consumer index of a ring. -/
def ringIndices (s : State) : RingId → Nat × Nat × Nat
  | .axis a => ((s.axis a).ringSize, (s.axis a).producer, (s.axis a).consumer)
  | .admin => (s.admin.ringSize, s.admin.producer, s.admin.consumer)

/-- The producer index register of a ring takes a value. -/
def setProducer (s : State) (v : Nat) : RingId → State
  | .axis a => s.modAxis a ({ · with producer := v })
  | .admin => { s with admin := { s.admin with producer := v } }

/-- A host write to a producer index register: ignored with INDEX when the value is not below the size
or would retract the occupancy, else accepted (R135). Register writes are ignored in RESETTING and
while RESETn is low (R189). -/
def writeProducer (ring : RingId) (value : Word) (s : State) : State :=
  let (size, producer, consumer) := ringIndices s ring
  let v := value.toNat
  if !s.live then s
  else if size ≤ v then recordFault .index s
  else if occupancyOf size v consumer < occupancyOf size producer consumer then recordFault .index s
  else setProducer s v ring

/-! ### Eligibility (R138, R139) -/

/-- Records in the FIFO, plus one for a read in flight (R137). -/
def State.placesTaken (s : State) (a : AxisId) : Nat :=
  (s.axis a).fifo.length + (s.readInFlight a).toNat

/-- An axis ring is eligible for a read (R138). -/
def State.axisEligible (s : State) (a : AxisId) : Bool :=
  s.part == .running && s.activeAxis a && (s.axis a).pendingStop.isNone &&
    decide (s.placesTaken a < Config.fifoDepth) && decide (0 < (s.axis a).occupancy) && s.grantable

/-- The administrative ring is eligible for a read (R139). -/
def State.adminEligible (s : State) : Bool :=
  s.part == .running && s.admin.state == .waiting && decide (0 < s.admin.occupancy) &&
    (s.comp.ringSize == 0 || s.grantable)

/-! ### The read arbiter (R141, R142) -/

/-- Class 1: STARVED with an empty FIFO (Table 8-2). -/
def Axis.classOne (x : Axis) : Bool := x.state == .starved && x.fifo.isEmpty

/-- Class 2: other active axes with 0 or 1 records (Table 8-2). -/
def Axis.classTwo (x : Axis) : Bool := !x.classOne && decide (x.fifo.length ≤ 1)

/-- The axes from position + 1 to position + 4, modulo 4 (R142). -/
def roundRobin (position : AxisId) : List AxisId :=
  [position + 1, position + 2, position + 3, position + 4]

/-- The ring the arbiter chooses: the first eligible ring of the first class that has one (R141). -/
def arbiterChoice (s : State) : Option RingId :=
  let order := (roundRobin s.arbiter).filter s.axisEligible
  match order.find? fun a => (s.axis a).classOne with
  | some a => some (.axis a)
  | none =>
    match order.find? fun a => (s.axis a).classTwo with
    | some a => some (.axis a)
    | none => if s.adminEligible then some .admin else order.head?.map .axis

/-- A read of the slot at a ring's consumer index is issued (R143): a reservation is taken when a
completion ring is configured (R139, R140), the timeout counter is loaded (R199), and the arbiter's
position or the admin unit's state follows (R142, R171). A slot address past FFFFFFFFh wraps (DESIGN
CHOICE, log entry 28). -/
def issueReadOf (ring : RingId) (s : State) : State :=
  let counter := loadCounter s.globals.readTimeout
  let reserved := s.comp.ringSize != 0
  let s' := if reserved then takeReservation s else s
  match ring with
  | .axis a =>
    let address := (s.axis a).ringBase + BitVec.ofNat 32 (32 * (s.axis a).consumer)
    { s' with readTxn := some ⟨ring, address, reserved, counter⟩, arbiter := a }
  | .admin =>
    let address := s.admin.ringBase + BitVec.ofNat 32 (32 * s.admin.consumer)
    { s' with readTxn := some ⟨ring, address, reserved, counter⟩
              admin := { s'.admin with state := .fetching } }

/-- While the read channel is free and a ring is eligible the arbiter issues one read (R141). -/
def issueRead (s : State) : State :=
  if s.readTxn.isSome then s
  else match arbiterChoice s with
    | some ring => issueReadOf ring s
    | none => s

/-! ### Returns (R144 to R147) -/

/-- The reservation a read took, if any, is released (R140). -/
def releaseRead (t : ReadTxn) (s : State) : State :=
  if t.reserved then releaseReservations 1 s else s

/-- An OK return of an axis ring read: placed at the FIFO tail with the consumer index advanced when
the axis is active, else dropped (R144). Outside RUNNING it is dropped (R147), also where a POST_FAULT
report has not reached the axis yet (log entry 31). -/
def placeRecord (a : AxisId) (t : ReadTxn) (record : List Byte) (s : State) : State :=
  if s.activeAxis a && s.part == .running then
    s.modAxis a fun x =>
      { x with fifo := x.fifo ++ [decodeSegment record], consumer := nextIndex x.ringSize x.consumer }
  else releaseRead t s

/-- AXIS_READ_RETURN for the axis read outstanding; a command waiting for it then takes effect (R149).
In RESETTING the outcome is discarded (R147); a response that belongs to no outstanding axis read is
discarded (R199; log entry 13). -/
def axisReadOk (record : List Byte) (s : State) : State :=
  match s.readTxn with
  | some t =>
    match t.ring with
    | .axis a =>
      let s' := { s with readTxn := none }
      if s.part = .resetting then s' else resumeCommand a (placeRecord a t record s')
    | .admin => s
  | none => s

/-- An axis ring read ends in an error or a timeout: the fault is recorded, the reservation released
and FETCH_FAULT reported (R145). In FAILED an axis that its POST_FAULT report has not reached yet trips with
first cause FETCH_FAULT, as R145 says of an active axis in any part state; POST_FAULT then joins the later
causes, where R147 has the two the other way round (DEDUCED, log entry 31). -/
def fetchFault (a : AxisId) (t : ReadTxn) (kind : FaultKind) (s : State) : State :=
  takeReport ⟨a, .fetchFault⟩ (releaseRead t (recordFault (.transaction (.axis a) kind) s))

/-- The bad end of the axis read outstanding; a command waiting for it then takes effect (R149). -/
def axisReadFails (kind : FaultKind) (s : State) : State :=
  match s.readTxn with
  | some t =>
    match t.ring with
    | .axis a =>
      let s' := { s with readTxn := none }
      if s.part = .resetting then s' else resumeCommand a (fetchFault a t kind s')
    | .admin => s
  | none => s

/-- ADMIN_READ_RETURN for the administrative read outstanding (R146, R172). -/
def adminReadOk (record : List Byte) (s : State) : State :=
  match s.readTxn with
  | some t =>
    match t.ring with
    | .admin =>
      let s' := { s with readTxn := none }
      if s.part = .resetting then s' else returnedCommand (decodeCommand record) t.reserved s'
    | .axis _ => s
  | none => s

/-- The bad end of the administrative read outstanding: the fault is recorded, the reservation
released and the unit halts with FETCH_FAULT, in any part state but RESETTING (R146, R147). -/
def adminReadFails (kind : FaultKind) (s : State) : State :=
  match s.readTxn with
  | some t =>
    match t.ring with
    | .admin =>
      let s' := { s with readTxn := none }
      if s.part = .resetting then s'
      else haltAdmin .fetchFault (releaseRead t (recordFault (.transaction .admin kind) s'))
    | .axis _ => s
  | none => s

/-- PORT_TIMEOUT of a channel: the outstanding transaction resolves as a timeout (R199). A transaction
whose counter was never loaded does not time out. -/
def portTimesOut (channel : Channel) (s : State) : State :=
  match channel with
  | .read =>
    match s.readTxn with
    | some t =>
      if t.counter.isNone then s
      else match t.ring with
        | .axis _ => axisReadFails .timeout s
        | .admin => adminReadFails .timeout s
    | none => s
  | .write =>
    match s.writeTxn with
    | some t =>
      if t.counter.isNone then s
      else match t.kind with
        | .completion => completionFails .timeout s
        | .snapshot => snapshotFails .timeout s
    | none => s

end Sys2Proof.Machine
end

