-- ==== Sys2Proof/Machine/Control.lean ====
section
/-! DEFINITION. The control block (chapter 11): the CTRL and ADMRING writes, quiesce, soft reset and pin
reset, the fault summary, reads of the register window, and what comes about at the end of every
event. -/

namespace Sys2Proof.Machine

/-! ### Resets (R196, R197) -/

/-- Every block takes its reset values (R18, R20, R65, R77, R79, R115, R131, R151, R169, R171, R201). The
input levels follow the inputs (R115); the queue of waiting commands and the model's own fields stay. -/
def resetBlocks (s : State) : State :=
  { State.reset with
      axes := Vector.ofFn fun a => Axis.reset (s.axis a).pinActive
      emergency := s.emergency
      resetLow := s.resetLow, busRead := s.busRead, freeCount := s.freeCount, pending := s.pending }

/-- A transaction issued with timeout 0 is given 255 µs, counted from entry into RESETTING (R196). -/
def resettingCounter (c : Option Nat) : Option Nat := some (c.getD Config.resettingTimeout)

/-- The part enters RESETTING (R196): every leg demands neither side through R52, the group timers,
the coalescing timer and the bus interval timer stop (R79, R119, R168), requests of active axes become
stale (R118), a snapshot not yet issued is abandoned (R177), and outstanding transactions are awaited.
The carrier counts, the axis states and what the admin unit shows of the work it has abandoned stand as they
were until the reset values are taken (DESIGN CHOICE, log entry 27). -/
def enterResetting (s : State) : State :=
  let active := axisIds.filter s.activeAxis
  let s1 := active.foldl (fun s a => markStale a s) s
  { s1 with
      part := .resetting
      groups := Vector.ofFn fun g => { s1.group g with timer := none }
      meas := { s1.meas with busTimer := none }
      comp := { s1.comp with coalescingTimer := none }
      admin := { s1.admin with snapshot := s1.admin.snapshot.filter (·.issued) }
      readTxn := s1.readTxn.map fun t => { t with counter := resettingCounter t.counter }
      writeTxn := s1.writeTxn.map fun t => { t with counter := resettingCounter t.counter } }

/-- RESETTING ends at the first instant at which neither channel carries a transaction (R196). -/
def endResetting (s : State) : State :=
  if s.part = .resetting ∧ s.readTxn = none ∧ s.writeTxn = none then resetBlocks s else s

/-- RESETn is driven low: transactions are abandoned and every block takes its reset values (R197). -/
def pinResetBegins (s : State) : State := { resetBlocks s with resetLow := true }

/-- RESETn goes high: the part is DISABLED with the timebase at 0 (R197, R200). -/
def resetReleases (s : State) : State :=
  if s.resetLow then { s with resetLow := false, timebase := 0, subTick := 0 } else s

/-! ### Part states (R193, R194) -/

/-- ENABLE set in DISABLED: RUNNING, and the bus interval timer starts (R193). -/
def enablePart (s : State) : State :=
  { s with part := .running, meas := { s.meas with busTimer := some Config.busInterval } }

/-- ENABLE cleared in RUNNING, in the order of R194 and within the one event: QUIESCING, HOST_DISABLE for
each active axis, which trip, the bus interval timer stopped. -/
def disablePart (s : State) : State :=
  let s1 := takeReports
    (report .hostDisable (axisIds.filter s.activeAxis) { s with part := .quiescing, reports := [] })
  { s1 with reports := s.reports, meas := { s1.meas with busTimer := none } }

/-- QUIESCING ends at the instant the reservation count is 0, and QUIESCED is raised (R194). -/
def endQuiesce (s : State) : State :=
  if s.part = .quiescing ∧ s.comp.reservations = 0 then raise .quiesced { s with part := .disabled }
  else s

/-- A CTRL write (R191). -/
def writeCtrl (enable softReset adminRestart : Bool) (s : State) : State :=
  if !s.live then s
  else if softReset then enterResetting s
  else
    let s1 := if adminRestart then restartAdmin s else s
    if enable && s.part == .disabled then enablePart s1
    else if !enable && s.part == .running then disablePart s1
    else s1

/-! ### ADMRING (R192) -/

/-- The size of the low four bits of an ADMRING word: 0 unconfigured, or 2^k for code k = 2 to 12 (R204). -/
def admringSize (code : Nat) : Option Nat :=
  if code = 0 then some 0 else if 2 ≤ code ∧ code ≤ 12 then some (2 ^ code) else none

/-- A write to ADMRING: accepted only in DISABLED with an allowed size, when it zeroes both indices;
else ignored with REGISTER (R192). -/
def writeAdmring (value : Word) (s : State) : State :=
  if !s.live then s
  else match admringSize (value.extractLsb' 0 4).toNat with
    | some size =>
      if s.part = .disabled then
        { s with admin := { s.admin with
            ringBase := value &&& 0xFFFFFFC0#32, ringSize := size, consumer := 0, producer := 0 } }
      else recordFault .register s
    | none => recordFault .register s

/-! ### The remaining registers (R166, R167, R189, R198) -/

/-- A write of ICAUSE clears each cause whose bit is written as 1 (R166). -/
def writeIcause (value : Word) (s : State) : State :=
  if s.live then { s with icause := s.icause &&& ~~~ value.extractLsb' 0 6 } else s

/-- A write of IMASK replaces the enables (R167). -/
def writeImask (value : Word) (s : State) : State :=
  if s.live then { s with imask := value.extractLsb' 0 6 } else s

/-- A write the window ignores records REGISTER, but in RESETTING or under reset nothing (R189). -/
def ignoreWrite (s : State) : State := if s.live then recordFault .register s else s

/-- The size code a read of ADMRING returns: k for a size of 2^k (R204). -/
def admringCode (size : Nat) : Nat := if size = 0 then 0 else Nat.log2 size

/-- The word a 32-bit read at a byte offset returns, before any side effect (Table 11-1, R189, Table 12-8).
While RESETn is low every read returns 0. Only the read of FSUM is a command (log entry 15). An offset
that is no multiple of 4 reads the register that contains it (DESIGN CHOICE, log entry 29). -/
def readWindow (s : State) (offset : BitVec 6) : Word :=
  if s.resetLow then 0
  else match (offset.toNat / 4) with
    | 0 => Config.ident
    | 1 => fieldAt 0 (s.part == .running).toNat
    | 2 => s.stat
    | 3 => s.admin.ringBase ||| fieldAt 0 (admringCode s.admin.ringSize)
    | 4 => fieldAt 0 (s.axis 0).producer
    | 5 => fieldAt 0 (s.axis 1).producer
    | 6 => fieldAt 0 (s.axis 2).producer
    | 7 => fieldAt 0 (s.axis 3).producer
    | 8 => fieldAt 0 s.admin.producer
    | 9 => fieldAt 0 s.comp.consumer
    | 10 => s.icause.setWidth 32
    | 11 => s.imask.setWidth 32
    | 12 => s.fsum.setWidth 32
    | _ => 0

/-- What an access returns of the 32-bit word that contains its bytes: the addressed bytes, the first of
them least significant (R189; log entry 29). -/
def addressedBytes (lane : BitVec 2) (width : AccessWidth) (w : Word) : Word :=
  match width with
  | .byte => (w >>> (8 * lane.toNat)) &&& 0xFF#32
  | .half => (w >>> (8 * lane.toNat)) &&& 0xFFFF#32
  | .word => w

/-- What a read of the register window returns, of whatever width: a narrower read is served as a 32-bit
read of the register that contains its bytes (R189). -/
def readAccess (s : State) (offset : BitVec 6) (width : AccessWidth) : Word :=
  addressedBytes (offset.extractLsb' 0 2) width (readWindow s offset)

/-- The offset of FSUM (Table 12-8). -/
def fsumOffset : BitVec 6 := 0x30

/-- A read of FSUM returns the summary and clears every bit in one event (R198), whatever its width
(R189); a read is served in RESETTING too, and under reset it returns 0 (R189). -/
def readFsum (lane : BitVec 2) (width : AccessWidth) (s : State) : State :=
  { s with busRead := readAccess s (fsumOffset + lane.setWidth 6) width, fsum := 0 }

/-! ### What comes about at the end of every event -/

/-- After an event, and at its instant: a finished quiesce or soft reset ends (R194, R196), the read
arbiter and the write channel issue what they may (R141, R158), and the legs follow their demands (R52;
log entry 20). -/
def settle (s : State) : State :=
  refreshGates (issueWrite (issueRead (endResetting (endQuiesce s))))

end Sys2Proof.Machine
end

