-- ==== Sys2Proof/Machine/Clock.lean ====
section
/-! DEFINITION. Time: the peak and the valley of a carrier as whole events (R23, R49), the µs timebase
and the timers that count on it (R200), and one tick of the 80 MHz modulator clock, which is what a
step does on an empty queue (log entry 2). -/

namespace Sys2Proof.Machine

/-! ### Peak and valley -/

/-- The carrier of an axis runs (R46): the axis is active and the modulators take events (R60). -/
def State.carrierRuns (s : State) (a : AxisId) : Bool := s.live && s.activeAxis a

/-- CARRIER_PEAK: the count of a rising carrier reaches H. The modulator asks for a sample (R61) and
the sequencer does its work (R23), in that order (log entry 11). A stopped or falling carrier has no peak
(R46; log entry 8). -/
def peakEvent (a : AxisId) (s : State) : State :=
  if s.carrierRuns a && (s.axis a).rising then
    let s1 := s.modAxis a fun x => { x with carrierCount := x.workH, rising := false }
    takingOwn (sequencerPeak a) (axisRequest a s1)
  else s

/-- The valley of an axis that is still active as it is taken: the monitors account, the sequencer takes
its part, and the modulator loads if the axis is still active, in that order (R49). -/
def takeValley (a : AxisId) (s : State) : State :=
  if s.activeAxis a then
    let s1 := s.modAxis a fun x => { x.account with carrierCount := 0, rising := true }
    let s2 := takingOwn (sequencerValley a) s1
    if s2.activeAxis a then s2.modAxis a (·.load) else s2
  else s

/-- CARRIER_VALLEY: the count of a falling carrier returns to 0. Where a pending stop takes effect at this
valley, what a group has already sent to the axis is taken before it (R90). A stopped or rising carrier
has no valley (R46; log entry 8). -/
def valleyEvent (a : AxisId) (s : State) : State :=
  if s.carrierRuns a && !(s.axis a).rising then
    takeValley a (if (s.axis a).stopDue then finishGroup a s else s)
  else s

/-- RELEASE_TAKEN: a release sent to the axis is taken at its sequencer, with the trip it may lead to
(R83). The sequencers take no event in RESETTING (R35). -/
def releaseEvent (a : AxisId) (s : State) : State :=
  if s.live then takingOwn (takeRelease a) s else s

/-! ### The timebase (R200) -/

/-- A running timer subtracts 1 (R200). -/
def countDown (t : Option Nat) : Option Nat := t.map (· - 1)

/-- The timebase adds 1 and every running timer subtracts 1 at that instant (R84, R119, R164, R199, R200). -/
def advanceMicrosecond (s : State) : State :=
  { s with
      timebase := s.timebase + 1
      subTick := 0
      groups := Vector.ofFn fun g => { s.group g with timer := countDown (s.group g).timer }
      meas := { s.meas with busTimer := countDown s.meas.busTimer }
      comp := { s.comp with coalescingTimer := countDown s.comp.coalescingTimer }
      readTxn := s.readTxn.map fun t => { t with counter := countDown t.counter }
      writeTxn := s.writeTxn.map fun t => { t with counter := countDown t.counter } }

/-- A timer of the part (R200). -/
inductive Timer where
  | group (g : GroupId)
  | coalescing
  | bus
  | port (channel : Channel)
  deriving DecidableEq, Repr

/-- The time left on a timer, none when it does not run. -/
def timeLeft (s : State) : Timer → Option Nat
  | .group g => (s.group g).timer
  | .coalescing => s.comp.coalescingTimer
  | .bus => s.meas.busTimer
  | .port .read => s.readTxn.bind (·.counter)
  | .port .write => s.writeTxn.bind (·.counter)

/-- Every timer of the part. -/
def timers : List Timer :=
  groupIds.map .group ++ [.coalescing, .bus, .port .read, .port .write]

/-- What the expiry of a timer does (R85, R119, R164, R199). -/
def expire (t : Timer) (s : State) : State :=
  match t with
  | .group g => groupTimeout g s
  | .coalescing => coalescingExpires s
  | .bus => busTimerExpires s
  | .port channel => portTimesOut channel s

/-- An expiry with what becomes possible at its instant (R141, R158). -/
def expireEvent (t : Timer) (s : State) : State := settle (expire t s)

/-- TIMEBASE_INCREMENT (R200): it counts in every part state; under reset it is held at 0 (R197). The timers
it brings to 0 expire one after the other. -/
def timebaseEvent (s : State) : State :=
  if s.resetLow then s
  else
    let s1 := advanceMicrosecond s
    let due := timers.filter fun t => timeLeft s1 t == some 0
    takeInOrder expireEvent due.length due s1

/-! ### One tick of the modulator clock -/

/-- What may fall due at the end of one tick: a report in flight (R95), a release on its way to an axis
(R83), the peak or the valley its carrier reaches (R46), the end of a leg U conversion and the result of
a leg V or bus conversion (R117), the increment (R200). -/
inductive TickEvent where
  | report (r : Report)
  | release (a : AxisId)
  | carrier (a : AxisId)
  | legU
  | result
  | timebase
  deriving DecidableEq, Repr

/-- With one more tick the count reaches the peak or the valley (R46). -/
def Axis.turns (x : Axis) : Bool :=
  if x.rising then decide (x.workH ≤ x.carrierCount + 1) else decide (x.carrierCount ≤ 1)

/-- The count one tick on, short of a peak or a valley (R46). -/
def Axis.advanceCount (x : Axis) : Axis :=
  { x with carrierCount := if x.rising then x.carrierCount + 1 else x.carrierCount - 1 }

/-- A release is on its way to the axis (R82). -/
def releaseDue (s : State) (a : AxisId) : Bool := s.live && (s.axis a).releaseSent

/-- The carrier of the axis reaches its peak or valley with this tick. -/
def carrierDue (s : State) (a : AxisId) : Bool := s.carrierRuns a && (s.axis a).turns

/-- The conversion at the head has this progress and ends with this tick: 0.4 µs have passed (R117). -/
def conversionDue (s : State) (progress : Progress) : Bool :=
  s.live && s.meas.queue.head?.any (·.progress == progress)
    && decide (Config.conversionTicks ≤ s.meas.elapsed + 1)

/-- The leg U conversion at the head ends with this tick (R117). -/
def legUDue (s : State) : Bool := conversionDue s .convertingU

/-- The result of the request at the head is there with this tick (R117). -/
def resultDue (s : State) : Bool := conversionDue s .convertingV || conversionDue s .convertingBus

/-- This tick is the last of its microsecond (R200). -/
def timebaseDue (s : State) : Bool := decide (Config.ticksPerMicrosecond ≤ s.subTick + 1)

/-- Everything that falls due with this tick. -/
def dueEvents (s : State) : List TickEvent :=
  (if s.live then s.reports.map .report else []) ++
    (axisIds.filter (releaseDue s)).map .release ++ (axisIds.filter (carrierDue s)).map .carrier
    ++ (if legUDue s then [.legU] else []) ++ (if resultDue s then [.result] else []) ++ (if timebaseDue s then [.timebase] else [])

/-- The carrier of an axis runs and does not turn: it moves by one count (R46). -/
def advanceCarrier (s : State) (a : AxisId) : State :=
  if s.carrierRuns a && !(s.axis a).turns then s.modAxis a (·.advanceCount) else s

/-- The conversion in progress has run for one more tick (R117). -/
def advanceConversion (s : State) : State :=
  if s.live && !s.meas.queue.isEmpty then
    { s with meas := { s.meas with elapsed := min Config.conversionTicks (s.meas.elapsed + 1) } }
  else s

/-- One more tick has passed in the microsecond (R200). -/
def advanceSubTick (s : State) : State :=
  if timebaseDue s then s else { s with subTick := s.subTick + 1 }

/-- Every count of ticks moves by one: the legs' (R53), the converter's (R117), the microsecond's (R200)
and the carriers' (R46). -/
def advanceCounts (s : State) : State :=
  axisIds.foldl advanceCarrier (advanceSubTick (advanceConversion (ageGates s)))

/-- The result of the request at the head, with codes that nothing constrains: the analog inputs are the
world's (log entry 9). -/
def resultEvent (s : State) : State :=
  let n := s.freeCount
  let s1 := { s with freeCount := n + 2 }
  match s.meas.queue.head?.map ConvRequest.source with
  | some (.axis _) => takeAxisResult (Config.freeCode n) (Config.freeCode (n + 1)) s1
  | some .bus => takeBusResult (Config.freeCode n) s1
  | none => s

/-- One event that has fallen due is taken, as its command row would take it. -/
def takeTickEvent (e : TickEvent) (s : State) : State :=
  match e with
  | .report r => if r ∈ s.reports then takeAxisReport r s else s
  | .release a => releaseEvent a s
  | .carrier a => if (s.axis a).rising then peakEvent a s else valleyEvent a s
  | .legU => legUEnds s
  | .result => resultEvent s
  | .timebase => timebaseEvent s

/-- An event of a tick with what comes about at its instant: reads and writes are issued and the legs
follow their demands before the next event is taken (R52, R141, R158). -/
def settledTickEvent (e : TickEvent) (s : State) : State := settle (takeTickEvent e s)

/-- One tick of the 80 MHz clock: the counts move and the legs follow them, and the events that fall due
are taken in a free order, each settled at its instant (R46, R53, R117, R200). Under reset the part
holds its values (R197). -/
def tick (s : State) : State :=
  if s.resetLow then s
  else takeInOrder settledTickEvent (dueEvents s).length (dueEvents s) (settle (advanceCounts s))

end Sys2Proof.Machine
end

