-- ==== Sys2Proof/Machine/AdminCommands.lean ====
section
/-! DEFINITION. The meanings of the nine administrative commands (chapter 10): the command reaches the admin unit, and
its event is settled. -/

namespace Sys2Proof.Machine

/-- SET_COMPLETION_RING (R178). -/
def execSetCompletionRing (tag : Half) (base : Word) (size : Half) (s : State) :
    Host.Outcome State Fault Refusal :=
  .next (settle (takeCommand ⟨tag, .setCompletionRing base size⟩ s))

/-- SET_GLOBAL (R180). -/
def execSetGlobal (tag : Half) (readTimeout writeTimeout k f : Byte) (w ovLimit uvLimit : Half)
    (s : State) :
    Host.Outcome State Fault Refusal :=
  .next (settle (takeCommand ⟨tag, .setGlobal readTimeout writeTimeout k f w ovLimit uvLimit⟩ s))

/-- SET_AXIS_RING (R179). -/
def execSetAxisRing (tag : Half) (axis : Byte) (base : Word) (size : Half) (s : State) :
    Host.Outcome State Fault Refusal :=
  .next (settle (takeCommand ⟨tag, .setAxisRing axis base size⟩ s))

/-- CONFIGURE_AXIS (R181). -/
def execConfigureAxis (tag : Half) (axis d m r : Byte) (h tBoot np g currentLimit : Half)
    (n pattern : Byte) (s : State) :
    Host.Outcome State Fault Refusal :=
  .next (settle (takeCommand ⟨tag, .configureAxis axis d m r h tBoot np g currentLimit n pattern⟩ s))

/-- START_AXIS (R182). -/
def execStartAxis (tag : Half) (axis : Byte) (s : State) :
    Host.Outcome State Fault Refusal :=
  .next (settle (takeCommand ⟨tag, .startAxis axis⟩ s))

/-- STOP_AXIS (R36). -/
def execStopAxis (tag : Half) (axis mode : Byte) (s : State) :
    Host.Outcome State Fault Refusal :=
  .next (settle (takeCommand ⟨tag, .stopAxis axis mode⟩ s))

/-- CLEAR_FAULT (R110). -/
def execClearFault (tag : Half) (axis disposition : Byte) (s : State) :
    Host.Outcome State Fault Refusal :=
  .next (settle (takeCommand ⟨tag, .clearFault axis disposition⟩ s))

/-- DEFINE_GROUP (R91). -/
def execDefineGroup (tag : Half) (group members : Byte) (timeout : Half) (s : State) :
    Host.Outcome State Fault Refusal :=
  .next (settle (takeCommand ⟨tag, .defineGroup group members timeout⟩ s))

/-- READ_AXIS (R187). -/
def execReadAxis (tag : Half) (axis : Byte) (address : Word) (s : State) :
    Host.Outcome State Fault Refusal :=
  .next (settle (takeCommand ⟨tag, .readAxis axis address⟩ s))

end Sys2Proof.Machine
end

