-- ==== Sys2Proof/Machine/AxisEvents.lean ====
section
/-! DEFINITION. The meanings of the events of an axis: its carrier, its legs, the trips and the releases that reach it
(chapters 2, 3, 5 and 6). -/

namespace Sys2Proof.Machine

/-- CARRIER_PEAK (R23). -/
def execCarrierPeak (axis : AxisId) (s : State) :
    Host.Outcome State Fault Refusal :=
  .next (settle (peakEvent axis s))

/-- CARRIER_VALLEY (R49). -/
def execCarrierValley (axis : AxisId) (s : State) :
    Host.Outcome State Fault Refusal :=
  .next (settle (valleyEvent axis s))

/-- AXIS_TRIP (R96): a report of the cause is taken for the axis, one in flight or one of the world's; those
its trip leads to are then in flight (R86, R95). -/
def execAxisTrip (axis : AxisId) (cause : TripCause) (s : State) :
    Host.Outcome State Fault Refusal :=
  .next (settle (takeAxisReport ⟨axis, cause⟩ s))

/-- RELEASE_TAKEN (R83). -/
def execReleaseTaken (axis : AxisId) (s : State) :
    Host.Outcome State Fault Refusal :=
  .next (settle (releaseEvent axis s))

/-- CARRIER_CROSSING (R52). -/
def execCarrierCrossing (axis : AxisId) (leg : Leg) (s : State) :
    Host.Outcome State Fault Refusal :=
  .next (settle (carrierCross axis leg s))

/-- DEAD_TIME_ELAPSED (R53). -/
def execDeadTimeElapsed (axis : AxisId) (leg : Leg) (s : State) :
    Host.Outcome State Fault Refusal :=
  .next (settle (deadTimePassed axis leg s))

end Sys2Proof.Machine
end

