-- ==== Sys2Proof/Machine/InputEvents.lean ====
section
/-! DEFINITION. The meanings of the changes of the input pins: the trip pins and the emergency input (chapter 6) and
RESETn (R197). -/

namespace Sys2Proof.Machine

/-- TRIP_PIN_ACTIVE (R102). -/
def execTripPinActive (axis : AxisId) (s : State) :
    Host.Outcome State Fault Refusal :=
  .next (settle (pinBecomesActive axis s))

/-- TRIP_PIN_INACTIVE (R102). -/
def execTripPinInactive (axis : AxisId) (s : State) :
    Host.Outcome State Fault Refusal :=
  .next (pinBecomesInactive axis s)

/-- EMERGENCY_ACTIVE (R104). -/
def execEmergencyActive (s : State) :
    Host.Outcome State Fault Refusal :=
  .next (settle (emergencyBecomesActive s))

/-- EMERGENCY_INACTIVE (R105). -/
def execEmergencyInactive (s : State) :
    Host.Outcome State Fault Refusal :=
  .next (settle (emergencyBecomesInactive s))

/-- PIN_RESET (R197). -/
def execPinReset (s : State) :
    Host.Outcome State Fault Refusal :=
  .next (settle (pinResetBegins s))

/-- RESET_RELEASE (R197). -/
def execResetRelease (s : State) :
    Host.Outcome State Fault Refusal :=
  .next (settle (resetReleases s))

end Sys2Proof.Machine
end

