-- ==== Sys2Proof/Machine/MeasurementEvents.lean ====
section
/-! DEFINITION. The meanings of the converter's events (chapter 7). -/

namespace Sys2Proof.Machine

/-- AXIS_RESULT (R122). -/
def execAxisResult (codeU codeV : BitVec 12) (s : State) :
    Host.Outcome State Fault Refusal :=
  .next (settle (takeAxisResult codeU codeV s))

/-- BUS_RESULT (R125). -/
def execBusResult (code : BitVec 12) (s : State) :
    Host.Outcome State Fault Refusal :=
  .next (settle (takeBusResult code s))

/-- LEG_U_CONVERSION_END (R117). -/
def execLegUConversionEnd (s : State) :
    Host.Outcome State Fault Refusal :=
  .next (settle (legUEnds s))

end Sys2Proof.Machine
end

