-- ==== Sys2Proof/Machine/PortEvents.lean ====
section
/-! DEFINITION. The meanings of the responses at the host memory port (R199) and of the ends of a quiesce and of a soft
reset (R194, R196). -/

namespace Sys2Proof.Machine

/-- AXIS_READ_RETURN (R144). -/
def execAxisReadReturn (record : List Byte) (s : State) :
    Host.Outcome State Fault Refusal :=
  .next (settle (axisReadOk record s))

/-- AXIS_READ_ERROR (R145). -/
def execAxisReadError (s : State) :
    Host.Outcome State Fault Refusal :=
  .next (settle (axisReadFails .error s))

/-- ADMIN_READ_RETURN (R172). -/
def execAdminReadReturn (record : List Byte) (s : State) :
    Host.Outcome State Fault Refusal :=
  .next (settle (adminReadOk record s))

/-- ADMIN_READ_ERROR (R146). -/
def execAdminReadError (s : State) :
    Host.Outcome State Fault Refusal :=
  .next (settle (adminReadFails .error s))

/-- COMPLETION_WRITE_OK (R159). -/
def execCompletionWriteOk (s : State) :
    Host.Outcome State Fault Refusal :=
  .next (settle (completionOk s))

/-- COMPLETION_WRITE_ERROR (R160). -/
def execCompletionWriteError (s : State) :
    Host.Outcome State Fault Refusal :=
  .next (settle (completionFails .error s))

/-- SNAPSHOT_WRITE_RESPONSE (R188). -/
def execSnapshotWriteResponse (ok : Bool) (s : State) :
    Host.Outcome State Fault Refusal :=
  .next (settle (if ok then snapshotOk s else snapshotFails .error s))

/-- LATE_RESPONSE: discarded without effect on any block (R199). -/
def execLateResponse (_channel : Channel) (s : State) :
    Host.Outcome State Fault Refusal :=
  .next (s)

/-- RESETTING_END (R196). -/
def execResettingEnd (s : State) :
    Host.Outcome State Fault Refusal :=
  .next (settle (endResetting s))

/-- QUIESCE_END (R194). -/
def execQuiesceEnd (s : State) :
    Host.Outcome State Fault Refusal :=
  .next (settle (endQuiesce s))

end Sys2Proof.Machine
end

