-- ==== Sys2Proof/Machine/RegisterCommands.lean ====
section
/-! DEFINITION. The meanings of the accesses to the register window (chapter 11). The writes that can make a read or a
write of the host memory port possible, or change a demand, settle their event. -/

namespace Sys2Proof.Machine

/-- SET_ENABLE: a CTRL write with ENABLE 1 (R191, R193). -/
def execSetEnable (restart : Bool) (s : State) :
    Host.Outcome State Fault Refusal :=
  .next (settle (writeCtrl true false restart s))

/-- CLEAR_ENABLE: a CTRL write with ENABLE 0 (R191, R194). -/
def execClearEnable (restart : Bool) (s : State) :
    Host.Outcome State Fault Refusal :=
  .next (settle (writeCtrl false false restart s))

/-- SOFT_RESET: a CTRL write with SOFT_RESET 1, its other bits ignored (R191, R196). -/
def execSoftReset (enable restart : Bool) (s : State) :
    Host.Outcome State Fault Refusal :=
  .next (settle (writeCtrl enable true restart s))

/-- ADMIN_RESTART: a CTRL write with ADMIN_RESTART 1 and the ENABLE bit it carries (R175, R191). -/
def execAdminRestart (enable : Bool) (s : State) :
    Host.Outcome State Fault Refusal :=
  .next (settle (writeCtrl enable false true s))

/-- ADMRING_WRITE (R192). -/
def execAdmringWrite (value : Word) (s : State) :
    Host.Outcome State Fault Refusal :=
  .next (settle (writeAdmring value s))

/-- PRODUCER_INDEX_WRITE (R135). -/
def execProducerIndexWrite (ring : RingId) (value : Word) (s : State) :
    Host.Outcome State Fault Refusal :=
  .next (settle (writeProducer ring value s))

/-- CCONS_WRITE (R162). -/
def execCconsWrite (value : Word) (s : State) :
    Host.Outcome State Fault Refusal :=
  .next (settle (writeCcons value s))

/-- ICAUSE_WRITE (R166). -/
def execIcauseWrite (value : Word) (s : State) :
    Host.Outcome State Fault Refusal :=
  .next (writeIcause value s)

/-- IMASK_WRITE (R167). -/
def execImaskWrite (value : Word) (s : State) :
    Host.Outcome State Fault Refusal :=
  .next (writeImask value s)

/-- FSUM_READ (R198). -/
def execFsumRead (s : State) (lane : BitVec 2 := 0) (width : AccessWidth := .word) :
    Host.Outcome State Fault Refusal :=
  .next (readFsum lane width s)

/-- REGISTER_WRITE_IGNORED (R189): whatever the offset and width, only the record is made. -/
def execRegisterWriteIgnored (_offset : BitVec 6) (_narrow : Bool) (s : State) :
    Host.Outcome State Fault Refusal :=
  .next (ignoreWrite s)

end Sys2Proof.Machine
end

