-- ==== Sys2Proof/Machine/TimerEvents.lean ====
section
/-! DEFINITION. The meanings of the timers and of the timebase (R84, R119, R164, R199, R200). -/

namespace Sys2Proof.Machine

/-- RDV_TIMER_EXPIRY (R85). -/
def execRdvTimerExpiry (group : GroupId) (s : State) :
    Host.Outcome State Fault Refusal :=
  .next (settle (expire (.group group) s))

/-- COALESCING_TIMER_EXPIRY (R164). -/
def execCoalescingTimerExpiry (s : State) :
    Host.Outcome State Fault Refusal :=
  .next (settle (expire .coalescing s))

/-- BUS_INTERVAL_TIMER_EXPIRY (R119). -/
def execBusIntervalTimerExpiry (s : State) :
    Host.Outcome State Fault Refusal :=
  .next (settle (expire .bus s))

/-- PORT_TIMEOUT (R199). -/
def execPortTimeout (channel : Channel) (s : State) :
    Host.Outcome State Fault Refusal :=
  .next (settle (expire (.port channel) s))

/-- TIMEBASE_INCREMENT (R200). -/
def execTimebaseIncrement (s : State) :
    Host.Outcome State Fault Refusal :=
  .next (settle (timebaseEvent s))

end Sys2Proof.Machine
end

