-- ==== Sys2Proof/Machine/Dispatch.lean ====
section
/-! DEFINITION. The meaning of every command and event, one arm per row of spec/opcode_table.json. -/

namespace Sys2Proof.Machine

def exec (i : Instr) (s : State) : Host.Outcome State Fault Refusal :=
  match i with
  | .setCompletionRing tag base size => Sys2Proof.Machine.execSetCompletionRing tag base size s
  | .setGlobal tag readTimeout writeTimeout k f w ovLimit uvLimit => Sys2Proof.Machine.execSetGlobal tag readTimeout writeTimeout k f w ovLimit uvLimit s
  | .setAxisRing tag axis base size => Sys2Proof.Machine.execSetAxisRing tag axis base size s
  | .configureAxis tag axis d m r h tBoot np g currentLimit n pattern => Sys2Proof.Machine.execConfigureAxis tag axis d m r h tBoot np g currentLimit n pattern s
  | .startAxis tag axis => Sys2Proof.Machine.execStartAxis tag axis s
  | .stopAxis tag axis mode => Sys2Proof.Machine.execStopAxis tag axis mode s
  | .clearFault tag axis disposition => Sys2Proof.Machine.execClearFault tag axis disposition s
  | .defineGroup tag group members timeout => Sys2Proof.Machine.execDefineGroup tag group members timeout s
  | .readAxis tag axis address => Sys2Proof.Machine.execReadAxis tag axis address s
  | .setEnable restart => Sys2Proof.Machine.execSetEnable restart s
  | .clearEnable restart => Sys2Proof.Machine.execClearEnable restart s
  | .softReset enable restart => Sys2Proof.Machine.execSoftReset enable restart s
  | .adminRestart enable => Sys2Proof.Machine.execAdminRestart enable s
  | .admringWrite value => Sys2Proof.Machine.execAdmringWrite value s
  | .producerIndexWrite ring value => Sys2Proof.Machine.execProducerIndexWrite ring value s
  | .cconsWrite value => Sys2Proof.Machine.execCconsWrite value s
  | .icauseWrite value => Sys2Proof.Machine.execIcauseWrite value s
  | .imaskWrite value => Sys2Proof.Machine.execImaskWrite value s
  | .fsumRead lane width => Sys2Proof.Machine.execFsumRead s lane width
  | .registerWriteIgnored offset narrow => Sys2Proof.Machine.execRegisterWriteIgnored offset narrow s
  | .tripPinActive axis => Sys2Proof.Machine.execTripPinActive axis s
  | .tripPinInactive axis => Sys2Proof.Machine.execTripPinInactive axis s
  | .emergencyActive => Sys2Proof.Machine.execEmergencyActive s
  | .emergencyInactive => Sys2Proof.Machine.execEmergencyInactive s
  | .pinReset => Sys2Proof.Machine.execPinReset s
  | .resetRelease => Sys2Proof.Machine.execResetRelease s
  | .carrierPeak axis => Sys2Proof.Machine.execCarrierPeak axis s
  | .carrierValley axis => Sys2Proof.Machine.execCarrierValley axis s
  | .axisTrip axis cause => Sys2Proof.Machine.execAxisTrip axis cause s
  | .releaseTaken axis => Sys2Proof.Machine.execReleaseTaken axis s
  | .rdvTimerExpiry group => Sys2Proof.Machine.execRdvTimerExpiry group s
  | .coalescingTimerExpiry => Sys2Proof.Machine.execCoalescingTimerExpiry s
  | .busIntervalTimerExpiry => Sys2Proof.Machine.execBusIntervalTimerExpiry s
  | .portTimeout channel => Sys2Proof.Machine.execPortTimeout channel s
  | .axisResult codeU codeV => Sys2Proof.Machine.execAxisResult codeU codeV s
  | .busResult code => Sys2Proof.Machine.execBusResult code s
  | .axisReadReturn record => Sys2Proof.Machine.execAxisReadReturn record s
  | .axisReadError => Sys2Proof.Machine.execAxisReadError s
  | .adminReadReturn record => Sys2Proof.Machine.execAdminReadReturn record s
  | .adminReadError => Sys2Proof.Machine.execAdminReadError s
  | .completionWriteOk => Sys2Proof.Machine.execCompletionWriteOk s
  | .completionWriteError => Sys2Proof.Machine.execCompletionWriteError s
  | .snapshotWriteResponse ok => Sys2Proof.Machine.execSnapshotWriteResponse ok s
  | .lateResponse channel => Sys2Proof.Machine.execLateResponse channel s
  | .resettingEnd => Sys2Proof.Machine.execResettingEnd s
  | .quiesceEnd => Sys2Proof.Machine.execQuiesceEnd s
  | .timebaseIncrement => Sys2Proof.Machine.execTimebaseIncrement s
  | .carrierCrossing axis leg => Sys2Proof.Machine.execCarrierCrossing axis leg s
  | .deadTimeElapsed axis leg => Sys2Proof.Machine.execDeadTimeElapsed axis leg s
  | .legUConversionEnd => Sys2Proof.Machine.execLegUConversionEnd s

end Sys2Proof.Machine
end

