-- ==== Sys2Proof/Safety.lean ====
section
/-! DEFINITION. What counts as a sound state and a sound step of the IB-4406: the laws of the part that
the chapters state, as predicates on a state, and what the end of an event may still change. -/

namespace Sys2Proof.Machine

/-! ### The end of an event -/

/-- Neither the end of a quiesce nor the end of RESETTING is due (R194, R196). -/
abbrev Steady (s : State) : Prop :=
  (s.part = .quiescing → s.comp.reservations ≠ 0) ∧
    (s.part = .resetting → s.readTxn ≠ none ∨ s.writeTxn ≠ none)

/-- The address of the slot at a ring's consumer index (R133, R143), modulo 2^32 (log entry 28). -/
def slotAddress (s : State) : RingId → Word
  | .axis a => (s.axis a).ringBase + BitVec.ofNat 32 (32 * (s.axis a).consumer)
  | .admin => s.admin.ringBase + BitVec.ofNat 32 (32 * s.admin.consumer)

/-- A timeout counter as an issue loads it: none for a timeout of 0 (R199). -/
def loaded (timeout : Nat) : Option Nat := if timeout = 0 then none else some timeout

/-- The ring for which a read is issued: at a free channel the one the arbiter chooses (R141). -/
def servedRing (s : State) : Option RingId := if s.readTxn = none then arbiterChoice s else none

/-- What the read channel carries once the arbiter has issued what it may (R141, R143, R199). -/
def readIssued (s : State) : Option ReadTxn :=
  match servedRing s with
  | some ring =>
    some ⟨ring, slotAddress s ring, decide (s.comp.ringSize ≠ 0), loaded s.globals.readTimeout⟩
  | none => s.readTxn

/-- The write channel takes a claimant: it is free and the part is neither FAILED nor RESETTING (R158). -/
abbrev WriteFree (s : State) : Prop := s.writeTxn = none ∧ s.part ≠ .failed ∧ s.part ≠ .resetting

/-- What the write channel carries once it has taken a claimant: a snapshot that waits goes first, then the
head of the pending queue, with the lap value in force, to the slot at the producer index (R158, R188). -/
def writeIssued (s : State) : Option WriteTxn :=
  if WriteFree s then
    match s.admin.snapshot, s.comp.queue with
    | some ⟨address, data, _, false⟩, _ => some ⟨.snapshot, address, data, loaded s.globals.writeTimeout⟩
    | _, c :: _ => some ⟨.completion, s.comp.ringBase + BitVec.ofNat 32 (16 * s.comp.producer),
        completionBytes s.comp.lap c, loaded s.globals.writeTimeout⟩
    | _, [] => none
  else s.writeTxn

/-- `t` is `s` after what comes about by itself at the end of an event that leaves `s`: the arbiters have
issued the read (R141) and the write (R158) that they may, and the legs follow their demands (R52).
Everything about `t` is said. -/
structure Settles (s t : State) : Prop where
  /-- Everything else is as in `s`. -/
  frame : t = { s with
    gates := t.gates, readTxn := t.readTxn, writeTxn := t.writeTxn, arbiter := t.arbiter
    comp := { s.comp with reservations := t.comp.reservations }
    admin := { s.admin with state := t.admin.state, snapshot := t.admin.snapshot } }
  /-- Every leg follows its demand. -/
  gates : ∀ a l, t.gate a l = (s.gate a l).follow (legDemand t a l)
  /-- The read channel. -/
  readTxn : t.readTxn = readIssued s
  /-- An axis served becomes the arbiter's position (R142). -/
  arbiter : t.arbiter = match servedRing s with
    | some (.axis a) => a
    | _ => s.arbiter
  /-- A reservation is taken exactly for a read that is issued on a configured completion ring (R140). -/
  reservations : t.comp.reservations = s.comp.reservations +
    (if servedRing s ≠ none ∧ s.comp.ringSize ≠ 0 then 1 else 0)
  /-- The admin unit is FETCHING exactly once a read of its ring is issued (R171). -/
  adminState : t.admin.state = if servedRing s = some .admin then .fetching else s.admin.state
  /-- The write channel. -/
  writeTxn : t.writeTxn = writeIssued s
  /-- A snapshot that waits is issued at a free channel (R188). -/
  snapshot : t.admin.snapshot =
    if WriteFree s then s.admin.snapshot.map fun w => { w with issued := true } else s.admin.snapshot

/-! ### The return of an administrative read (R172) -/

/-- A read of the administrative ring is outstanding in RUNNING with a completion ring configured, so
that its OK return is accepted (R172). -/
abbrev CommandReturns (s : State) : Prop :=
  s.resetLow = false ∧ s.part = .running ∧ s.comp.ringSize ≠ 0 ∧ s.admin.state = .fetching ∧
    0 < s.admin.occupancy ∧
    s.readTxn.map (fun t => (t.ring, t.reserved)) = some (RingId.admin, true)

/-- The machine after a command's return was accepted and its execution has ended: the read has resolved,
the admin consumer index has advanced, and the unit is WAITING again (R172, R174). -/
def commandEnded (s : State) : State :=
  { s with
    readTxn := none
    admin := { s.admin with state := .waiting, current := none, snapshot := none
                            consumer := (s.admin.consumer + 1) % s.admin.ringSize } }

/-- The same, with the command's one completion handed over (R173). -/
def afterCommand (s : State) (done : Completion) : State :=
  let s' := commandEnded s
  { s' with comp := { s'.comp with queue := s'.comp.queue ++ [done] } }

/-- The arguments of a ring are valid: a power of two from 4 to 4096 and a base that is a multiple of 64
(R178, R179). -/
abbrev RingArguments (base : Word) (size : Half) : Prop :=
  size.toNat ∈ [4, 8, 16, 32, 64, 128, 256, 512, 1024, 2048, 4096] ∧ base.toNat % 64 = 0

/-- A command completes INVALID with BAD_PARAMETER and a zero result (R173). -/
def invalidCompletion (tag : Half) : Completion := ⟨tag, .admin, .invalid, .badParameter, .admin .zero⟩

/-- A command completes REFUSED with a reason and a zero result (R173). -/
def refusedCompletion (tag : Half) (reason : Detail) : Completion :=
  ⟨tag, .admin, .refused, reason, .admin .zero⟩

/-- A command completes OK with a result (R173). -/
def okCompletion (tag : Half) (result : AdminResult) : Completion :=
  ⟨tag, .admin, .ok, .none, .admin result⟩

/-- Completions handed over: they wait at the tail of the pending queue (R157); in FAILED they are discarded
and their reservations released (R161); with no ring configured they are discarded (R157). -/
def handedOver (done : List Completion) (s : State) : State :=
  if s.comp.ringSize = 0 then s
  else if s.part = .failed then
    { s with comp := { s.comp with reservations := s.comp.reservations - done.length } }
  else { s with comp := { s.comp with queue := s.comp.queue ++ done } }

/-- A command's execution ends with its completion handed over, the unit WAITING again (R173, R174). -/
def ended (s : State) (done : Completion) : State :=
  let s' := handedOver [done] s
  { s' with admin := { s'.admin with state := .waiting, current := none, snapshot := none } }

/-- The axis a stop or a run end leaves (R20, R30, R39, R46): IDLE, holding nothing, its carrier at 0. -/
def Axis.idled (x : Axis) : Axis :=
  { x with state := .idle, active := none, staged := none, arrival := none, released := false
           releaseSent := false, pendingStop := none, fifo := [], carrierCount := 0, rising := true }

/-- Entry into PRECHARGE (R21, R183): a valley of a carrier starting from 0, the configured half-period and
compare 0 loaded, and the run's counters cleared. -/
def Axis.started (x : Axis) : Axis :=
  { x with state := .precharge, prechargeIndex := 0, endPermission := false, released := false
           grace := 0, stolenTotal := 0, overcurrentRun := 0, carrierCount := 0, rising := true
           shadowH := x.config.h, workH := x.config.h, shadow := ⟨0, 0, 0⟩, work := ⟨0, 0, 0⟩
           shadowOverride := false, workOverride := false }

/-- The row of the table that an administrative command is (Table 12-3). -/
def commandRow (tag : Half) : AdminBody → Option Instr
  | .setCompletionRing base size => some (.setCompletionRing tag base size)
  | .setGlobal rt wt k f w ov uv => some (.setGlobal tag rt wt k f w ov uv)
  | .setAxisRing axis base size => some (.setAxisRing tag axis base size)
  | .configureAxis axis d m r h tBoot np g limit n pattern =>
    some (.configureAxis tag axis d m r h tBoot np g limit n pattern)
  | .startAxis axis => some (.startAxis tag axis)
  | .stopAxis axis mode => some (.stopAxis tag axis mode)
  | .clearFault axis disposition => some (.clearFault tag axis disposition)
  | .defineGroup group members timeout => some (.defineGroup tag group members timeout)
  | .readAxis axis address => some (.readAxis tag axis address)
  | .unknown _ => none

/-- The first condition of R182 that a START_AXIS fails. -/
def startRefused (s : State) (a : AxisId) : Option Detail :=
  let x := s.axis a
  if s.part ≠ .running ∨ x.state ≠ .idle then some .wrongState
  else if x.configured = false then some .notConfigured
  else if x.ringSize = 0 then some .noRing
  else if x.pinActive = true then some .tripActive
  else if s.emergency = true then some .emergencyActive
  else if s.ovFlag = true ∨ s.uvFlag = true then some .busFault
  else none

/-- The first condition of R110 that a CLEAR_FAULT fails. -/
def clearRefused (s : State) (a : AxisId) : Option Detail :=
  let x := s.axis a
  if x.state ≠ .tripped then some .wrongState
  else if x.pinActive = true then some .tripActive
  else if s.emergency = true then some .emergencyActive
  else none

/-- The occupancy of an axis ring (R134). -/
def Axis.ringHolds (x : Axis) : Nat :=
  if x.ringSize = 0 then 0 else (x.producer + x.ringSize - x.consumer) % x.ringSize

/-- A started axis (R182, R183): a report that was in flight to it found it IDLE (log entry 30). -/
def startedAt (a : AxisId) (s : State) : State :=
  { s.setAxis a (s.axis a).started with reports := s.reports.filter fun r => r.axis ≠ a }

/-- A cleared axis (R111 to R113): disposition 1 skips the ring. -/
def clearedAt (a : AxisId) (disposition : Byte) (s : State) : State :=
  s.setAxis a { s.axis a with
    tripRecord := none, overcurrentRun := 0, state := .idle
    consumer := if disposition = 1 then (s.axis a).producer else (s.axis a).consumer }

/-- A command that waited for a read of axis a's ring is tested and takes effect once the read has resolved
(R149, R174): what it leaves and its completion, by R179, R182 and R185. -/
def waitedCommand (c : AdminCommand) (a : AxisId) (s : State) : State × Completion :=
  let x := s.axis a
  match c.body with
  | .startAxis _ =>
    match startRefused s a with
    | some reason => (s, refusedCompletion c.tag reason)
    | none => (startedAt a s, okCompletion c.tag (.startAxis x.consumer x.ringHolds))
  | .setAxisRing _ base size =>
    if ¬ RingArguments base size then (s, invalidCompletion c.tag)
    else if x.state ≠ .idle ∨ x.fifo ≠ [] then (s, refusedCompletion c.tag .wrongState)
    else (s.setAxis a { x with ringBase := base, ringSize := size.toNat, producer := 0, consumer := 0 },
      okCompletion c.tag .zero)
  | .clearFault _ disposition =>
    if 2 ≤ disposition.toNat then (s, invalidCompletion c.tag)
    else match clearRefused s a, x.tripRecord with
      | some reason, _ => (s, refusedCompletion c.tag reason)
      | none, some r => (clearedAt a disposition s,
          ⟨c.tag, .admin, .ok, .trip r.first, .admin (.clearFault r.timestamp r.later
            (if disposition = 1 then x.ringHolds else 0))⟩)
      | none, none => (s, invalidCompletion c.tag)
  | _ => (s, invalidCompletion c.tag)

/-- The command in execution waits for a read of axis a's ring (R149). -/
def WaitsFor (s : State) (a : AxisId) (c : AdminCommand) : Prop :=
  s.admin.state = .executing ∧ s.admin.current = some c ∧
    ∃ tag axis, axis.toNat = a.val ∧ (c = ⟨tag, .startAxis axis⟩ ∨
      (∃ base size, c = ⟨tag, .setAxisRing axis base size⟩) ∨ ∃ d, c = ⟨tag, .clearFault axis d⟩)

/-- A departure (R90): the axis leaves the arrived set of the group of its mark, and a group left empty
returns to IDLE with its timer stopped. -/
def departed (a : AxisId) (s : State) : State :=
  match (s.axis a).arrival with
  | none => s
  | some g =>
    let x := s.group g
    if x.state = .gathering ∧ hasAxis x.arrived a = true then
      if x.arrived = axisBit a then s.setGroup g { x with arrived := 0, state := .idle, timer := none }
      else s.setGroup g { x with arrived := x.arrived ^^^ axisBit a }
    else s

/-! ### What a fault record and a trip leave -/

/-- A fault recorded at a bit of the fault summary (Table 12-9): the other bits stay, and FAULT, bit 2 of
ICAUSE, is raised when the summary was 0 (R166, R198). -/
def faulted (bit : Nat) (s : State) : State :=
  { s with fsum := s.fsum ||| (1#16 <<< bit)
           icause := if s.fsum = 0 then s.icause ||| 0b000100#6 else s.icause }

/-- One microsecond later: the timebase adds 1 and every running timer subtracts 1 (R200). -/
def microsecondLater (s : State) : State :=
  { s with
    timebase := s.timebase + 1, subTick := 0
    groups := Vector.ofFn fun g => { s.group g with timer := (s.group g).timer.map (· - 1) }
    meas := { s.meas with busTimer := s.meas.busTimer.map (· - 1) }
    comp := { s.comp with coalescingTimer := s.comp.coalescingTimer.map (· - 1) }
    readTxn := s.readTxn.map fun t => { t with counter := t.counter.map (· - 1) }
    writeTxn := s.writeTxn.map fun t => { t with counter := t.counter.map (· - 1) } }

/-- The row of the table that the expiry of a timer is. -/
def expiryRow : Timer → Instr
  | .group g => .rdvTimerExpiry g
  | .coalescing => .coalescingTimerExpiry
  | .bus => .busIntervalTimerExpiry
  | .port channel => .portTimeout channel

/-- One tick has passed: each count of ticks has moved. An unbroken demand is one tick older, held at 255
(R53); the conversion in progress has run for one tick more (R117); the microsecond is one tick longer, but
for its last tick (R200); and a running carrier that reaches neither its peak nor its valley has moved by one
(R46). -/
def tickPassed (s : State) : State :=
  let awake := s.resetLow = false ∧ s.part ≠ .resetting
  { s with
    gates := Vector.ofFn fun a => .of fun l => { s.gate a l with held := min 255 ((s.gate a l).held + 1) }
    meas := { s.meas with elapsed :=
      if awake ∧ s.meas.queue ≠ [] then min 32 (s.meas.elapsed + 1) else s.meas.elapsed }
    subTick := if s.subTick + 1 < 80 then s.subTick + 1 else s.subTick
    axes := Vector.ofFn fun a =>
      let x := s.axis a
      if awake ∧ s.activeAxis a = true then
        if x.rising = true then
          if x.carrierCount + 1 < x.workH then { x with carrierCount := x.carrierCount + 1 } else x
        else if 1 < x.carrierCount then { x with carrierCount := x.carrierCount - 1 } else x
      else x }

/-- An event falls due with this tick: a report in flight (R95), a release on its way (R83), a peak or a
valley that a running carrier reaches (R46), the end of a conversion after its 32 ticks (R117), or the
increment that ends 80 ticks (R200). -/
def DueNow (s : State) (e : TickEvent) : Prop :=
  let awake := s.resetLow = false ∧ s.part ≠ .resetting
  match e with
  | .report r => awake ∧ r ∈ s.reports
  | .release a => awake ∧ (s.axis a).releaseSent = true
  | .carrier a => awake ∧ s.activeAxis a = true ∧
      if (s.axis a).rising = true then (s.axis a).workH ≤ (s.axis a).carrierCount + 1
      else (s.axis a).carrierCount ≤ 1
  | .legU => awake ∧ 32 ≤ s.meas.elapsed + 1 ∧ ∃ q ∈ s.meas.queue.head?, q.progress = .convertingU
  | .result => awake ∧ 32 ≤ s.meas.elapsed + 1 ∧
      ∃ q ∈ s.meas.queue.head?, q.progress = .convertingV ∨ q.progress = .convertingBus
  | .timebase => 80 ≤ s.subTick + 1

/-- The row of the table that an event of a tick is, with the codes of a result. -/
def tickRow (codeU codeV : BitVec 12) (s : State) : TickEvent → Instr
  | .report r => .axisTrip r.axis r.cause
  | .release a => .releaseTaken a
  | .carrier a => if (s.axis a).rising = true then .carrierPeak a else .carrierValley a
  | .legU => .legUConversionEnd
  | .result => match s.meas.queue with
    | ⟨.bus, _, _⟩ :: _ => .busResult codeU
    | _ => .axisResult codeU codeV
  | .timebase => .timebaseIncrement

/-- The head's result is taken: the next request begins its conversion, with its leg U first where it is
an axis request (R117). -/
def converterMoved (s : State) : State :=
  { s with meas := { s.meas with
      elapsed := 0
      queue := match s.meas.queue.tail with
        | [] => []
        | q :: rest => { q with progress := match q.source with
            | .axis _ => .convertingU
            | .bus => .convertingBus } :: rest } }

/-- The magnitude of a current code about its zero of 2048 (R122). -/
def currentMagnitude (code : BitVec 12) : Nat := ((code.toNat : Int) - 2048).natAbs

/-- A run counter after a result within or beyond the limit: it adds 1 up to 8, or returns to 0 (R123,
R126, R127). -/
def runAfter (beyond : Prop) [Decidable beyond] (run : Nat) : Nat := if beyond then min 8 (run + 1) else 0

/-- The axis a trip leaves: TRIPPED with a new trip record, holding nothing, its carrier at 0 (R33, R46,
R99); everything R97 lists stays. -/
def Axis.afterTrip (x : Axis) (cause : TripCause) (now : Word) : Axis :=
  { x with state := .tripped, tripRecord := some ⟨cause, now, 0⟩
           active := none, staged := none, arrival := none, released := false, releaseSent := false
           pendingStop := none, fifo := [], prechargeIndex := 0, grace := 0
           carrierCount := 0, rising := true }

/-- The active record's TRIPPED completion: its periods begun and its statistics so far (R33, item 1). -/
def trippedActive (a : AxisId) (cause : TripCause) (x : Axis) : List Completion :=
  x.active.toList.map fun g =>
    segmentCompletion a g.seg .tripped (.trip cause) (g.index + 1) g.stats

/-- Records completed without having been active: 0 periods and zero statistics (R15, R17). -/
def notPlayed (a : AxisId) (status : Status) (detail : Detail) (l : List Segment) : List Completion :=
  l.map fun seg => segmentCompletion a seg status detail 0 ⟨0, 0, 0, 0, 0⟩

/-- A pending stop's completion (R42). -/
def stopCompletion (x : Axis) (status : Status) (detail : Detail) (skip : Nat) : List Completion :=
  x.pendingStop.toList.map fun tag => adminCompletion tag status detail (.stopAxis skip)

/-- The requests of an axis become stale, the others stay (R118). -/
def staleFor (a : AxisId) (l : List ConvRequest) : List ConvRequest :=
  l.map fun q => if q.source = .axis a then { q with stale := true } else q

/-- The axis has taken a trip of this cause at this event: it is TRIPPED with the timestamp of the event,
and the cause is the first one, or joins RDV_BROKEN where a group break reached the axis first (R95,
R109). That the trips of a quiesce come within its event, with one timestamp, is the reading of R194 that
log entry 10 gives. -/
def TrippedBy (cause : TripCause) (s t : State) (a : AxisId) : Prop :=
  (t.axis a).state = .tripped ∧ ∃ r, (t.axis a).tripRecord = some r ∧ r.timestamp = s.timebase ∧
    (r.first = cause ∨ r.first = .rdvBroken ∧ r.later.getLsbD (causeCode cause - 1) = true)

/-- The peak of the axis is a staging point (R23): the last period of an active segment, the last
precharge period, or STARVED. -/
def StagingPeak (x : Axis) : Prop :=
  (x.state = .run ∧ ∃ g, x.active = some g ∧ g.seg.periods.toNat ≤ g.index + 1) ∨
    (x.state = .precharge ∧ x.config.np ≤ x.prechargeIndex + 1) ∨ x.state = .starved

/-- The axis examines its FIFO at a staging peak: no stop is pending, nothing is staged and no head has
arrived (R11, R23, R80). -/
abbrev Examines (x : Axis) : Prop :=
  StagingPeak x ∧ x.pendingStop = none ∧ x.staged = none ∧ x.arrival = none

/-- The state of a peak after the carrier has turned and the sample was asked for (R46, R61). -/
def peakSampled (a : AxisId) (s : State) : State :=
  axisRequest a (s.setAxis a { s.axis a with carrierCount := (s.axis a).workH, rising := false })

/-- The axis at a valley after its monitors have accounted and its carrier has turned (R46, R49). -/
def valleyOpened (x : Axis) : Axis := { x.account with carrierCount := 0, rising := true }

/-- A segment that ends OK: its completion is handed over, or its reservation is released if it is QUIET
(R4). -/
def endedOk (a : AxisId) (seg : Segment) (periods : Nat) (stats : Stats) (s : State) : State :=
  if seg.quiet then { s with comp := { s.comp with reservations := s.comp.reservations - 1 } }
  else handedOver [segmentCompletion a seg .ok .none periods stats] s

/-- The statistics of a record that was never active (R17). -/
def noStats : Stats := ⟨0, 0, 0, 0, 0⟩

/-- The duty period k of a record asks of one leg (R2, R6): HOLD its start, RAMP its start and the part of
the way to its end, rounded toward the start; any other kind 0. -/
def requestedDuty (seg : Segment) (k : Nat) (l : Leg) : Int :=
  let start : Int := (seg.dutyStart.get l).toNat
  let final : Int := (seg.dutyEnd.get l).toNat
  if seg.kind = 1 then start
  else if seg.kind = 2 then start + ((final - start) * (k + 1)).tdiv seg.periods.toNat
  else 0

/-- The request of period k written to the shadow (R7): floor(duty × H / 4096) for each leg, and the
override for FREEWHEEL. -/
def Axis.requested (x : Axis) (seg : Segment) (k h : Nat) : Axis :=
  { x with shadowH := h
           shadow := .of fun l => (requestedDuty seg k l * h / 4096).toNat
           shadowOverride := decide (seg.kind = 3) }

/-- A record is staged (R8, R13): its new half-period, if it has one, and its first request are written to
the shadow. -/
def Axis.withStaged (x : Axis) (seg : Segment) (rest : List Segment) : Axis :=
  { x.requested seg 0 (if seg.newH = 0 then x.shadowH else seg.newH.toNat) with
    fifo := rest, staged := some seg }

/-- The half-period is legal with the configuration, by the conditions of Table 3-5 that concern it
(R62): 64..32767, D + M below it, and T_boot + D at most twice it where T_boot is nonzero. -/
abbrev LegalPeriod (cfg : AxisConfig) (h : Nat) : Prop :=
  64 ≤ h ∧ h ≤ 32767 ∧ cfg.d + cfg.m < h ∧ (cfg.tBoot = 0 ∨ cfg.tBoot + cfg.d ≤ 2 * h)

/-- A duty of a triple lies over 4096. -/
abbrev DutyOver (d : Legs Half) : Prop :=
  4096 < d.u.toNat ∨ 4096 < d.v.toNat ∨ 4096 < d.w.toNat

/-- The first check of Table 1-3 that a record fails (R10). -/
def failedCheck (cfg : AxisConfig) (member : Bool) (seg : Segment) : Option Detail :=
  if seg.kind = 0 ∨ 5 < seg.kind.toNat then some .badKind
  else if (seg.kind = 5 ↔ seg.periods ≠ 0) then some .badLength
  else if (seg.kind = 1 ∧ DutyOver seg.dutyStart) ∨
      (seg.kind = 2 ∧ (DutyOver seg.dutyStart ∨ DutyOver seg.dutyEnd)) then some .badDuty
  else if seg.kind ≠ 5 ∧ seg.newH ≠ 0 ∧ ¬ LegalPeriod cfg seg.newH.toNat then some .badPeriod
  else if seg.rdv = true ∧ member = false then some .badGroup
  else none

/-- The first check that a record fails in the FIFO of an axis at this instant (R10). -/
def failedCheckAt (s : State) (a : AxisId) (seg : Segment) : Option Detail :=
  failedCheck (s.axis a).config (hasAxis (s.group seg.groupId).members a) seg

/-- The records a trip completes, in the order of R33: the active one, the staged one, the FIFO in ring
order, then the pending stop. For BAD_SEGMENT a head that fails a check is INVALID in its place (R11). -/
def trippedRecords (s : State) (a : AxisId) (cause : TripCause) : List Completion :=
  let x := s.axis a
  let fifo := match x.fifo with
    | [] => []
    | seg :: rest => (match cause, failedCheckAt s a seg with
        | .badSegment, some detail => notPlayed a .invalid detail [seg]
        | _, _ => notPlayed a .tripped (.trip cause) [seg]) ++ notPlayed a .tripped (.trip cause) rest
  trippedActive a cause x ++ notPlayed a .tripped (.trip cause) x.staged.toList ++ fifo ++
    stopCompletion x .tripped (.trip cause) 0

/-- The group breaks when the axis trips: it gathers and has the axis as a member (R86). -/
abbrev Breaks (y : Group) (a : AxisId) : Prop := y.state = .gathering ∧ hasAxis y.members a = true

/-- A group that has failed: BROKEN, its arrived set empty and its timer stopped (R85, R86). -/
def Group.broken (y : Group) : Group := { y with state := .broken, arrived := 0, timer := none }

/-- The trip of an active axis, the one event of R96: the axis, its completions, its conversion request, the
groups it breaks with the RDV_BROKEN reports that are then in flight (R86), and TRIP, bit 1 of ICAUSE. -/
def trippedAt (a : AxisId) (cause : TripCause) (s : State) : State :=
  let s' := handedOver (trippedRecords s a cause) (s.setAxis a ((s.axis a).afterTrip cause s.timebase))
  { s' with
    icause := s.icause ||| 0b000010#6
    meas := { s.meas with queue := staleFor a s.meas.queue }
    groups := Vector.ofFn fun g => if Breaks (s.group g) a then (s.group g).broken else s.group g
    reports := s.reports ++ groupIds.flatMap fun g =>
      if Breaks (s.group g) a then
        ((axesOf (s.group g).arrived).filter (· ≠ a)).map (⟨·, .rdvBroken⟩) else [] }

/-- A report taken for an axis, by Table R95: an active axis trips, a TRIPPED one takes a later cause
(R100), an IDLE one is unchanged; in reset nothing changes (R115). -/
def reportTaken (a : AxisId) (cause : TripCause) (s : State) : State :=
  let x := s.axis a
  if s.resetLow = true ∨ s.part = .resetting ∨ x.state = .idle then s
  else if x.state = .tripped then
    s.setAxis a { x with tripRecord := x.tripRecord.map fun r =>
      { r with later := r.later ||| 1#16 <<< (causeCode cause - 1) } }
  else trippedAt a cause s

/-- A release taken whose head does not let the examination resume (R26, R27): in WAIT_RDV a MARK completes
and the axis enters STARVED, and another head is released; before that a MARK completes and another head
is staged. -/
def withRelease (a : AxisId) (s : State) : State :=
  let x := { s.axis a with releaseSent := false, arrival := none }
  match x.fifo with
  | [] => s
  | seg :: rest =>
    if seg.kind = 5 then
      endedOk a seg 0 noStats (s.setAxis a (if x.state = .waitRdv then
          { x with state := .starved, grace := 0, fifo := rest, endPermission := seg.endOk }
        else { x with fifo := rest, endPermission := seg.endOk }))
    else s.setAxis a (if x.state = .waitRdv then { x with released := true } else x.withStaged seg rest)

/-- A group an axis has joined without completing its set: it gathers, and an IDLE group's timer starts (R81,
R84). -/
def Group.joined (y : Group) (arrived : BitVec 4) : Group :=
  { y with state := .gathering, arrived := arrived
           timer := if y.state = .idle then some y.timeout else y.timer }

/-- Axis a, standing as x, has completed the set of group g: the group is IDLE with its generation counted and
its timer stopped, and a release is sent to each other axis that had arrived (R82). -/
def groupReleased (g : GroupId) (a : AxisId) (x : Axis) (s : State) : State :=
  let y := s.group g
  { s with
    groups := (s.setGroup g { y with
      state := .idle, arrived := 0, generation := y.generation + 1, timer := none }).groups
    axes := Vector.ofFn fun b =>
      if b = a then x
      else if hasAxis y.arrived b = true then { s.axis b with releaseSent := true }
      else s.axis b }

/-- A release is on its way to an active axis, and the examination does not resume once it is taken: the
head is no MARK, or the axis is in WAIT_RDV, or a stop is pending, or no record follows (R26). -/
def ReleaseOnItsWay (x : Axis) : Prop :=
  x.state.isActive = true ∧ x.releaseSent = true ∧ x.arrival ≠ none ∧
    ∃ seg rest, x.fifo = seg :: rest ∧
      (seg.kind = 5 → x.state = .waitRdv ∨ x.pendingStop ≠ none ∨ rest = [])

/-- The reports in flight to an axis that its group has sent: RDV_TIMEOUT or RDV_BROKEN (R85, R86). -/
def groupReports (s : State) (a : AxisId) : List Report :=
  s.reports.filter fun r => r.axis = a ∧ (r.cause = .rdvTimeout ∨ r.cause = .rdvBroken)

/-- The valley that comes ends an active segment, precharge or a starved or waiting period, so that the
axis's next state is decided at it (R28, R29). -/
def BoundaryValley (x : Axis) : Prop :=
  (x.state = .run ∧ ∃ g, x.active = some g ∧ g.seg.periods.toNat ≤ g.index + 1) ∨
    (x.state = .precharge ∧ x.config.np ≤ x.prechargeIndex + 1) ∨ x.state = .starved ∨ x.state = .waitRdv

/-- The state of a boundary valley after the monitors have accounted, the carrier has turned and the
segment that ends, if any, has completed OK with all its periods (R14, R29, R49). -/
def closedAt (a : AxisId) (s : State) : State :=
  let x := valleyOpened (s.axis a)
  match x.state, x.active with
  | .run, some g =>
    endedOk a g.seg g.seg.periods.toNat g.stats (s.setAxis a { x with active := none })
  | _, _ => s.setAxis a x

/-- The bytes of its argument area that the command of an opcode has a field at (Table 12-3). -/
def argumentOffsets (opcode : Byte) : List Nat :=
  match opcode.toNat with
  | 1 => [4, 5, 6, 7, 8, 9]
  | 2 => [4, 5, 6, 7, 8, 9, 10, 11, 12, 13]
  | 3 => [4, 8, 9, 10, 11, 12, 13]
  | 4 => [4, 5, 6, 7, 8, 9, 10, 11, 12, 13, 14, 15, 16, 17, 18, 19]
  | 5 => [4]
  | 6 | 7 => [4, 5]
  | 8 => [4, 5, 6, 7]
  | 9 => [4, 8, 9, 10, 11]
  | _ => []

/-! ### The read arbiter -/

/-- The completion unit grants a reservation at this instant (R155). -/
abbrev Grants (s : State) : Prop :=
  s.comp.ringSize ≠ 0 ∧ s.comp.reservations < 16 ∧
    s.comp.posted + s.comp.reservations < s.comp.ringSize - 1

/-- A ring is eligible for a read while the read channel is free (R138, R139). -/
def Eligible (s : State) : RingId → Prop
  | .axis a => s.part = .running ∧ s.activeAxis a = true ∧ (s.axis a).pendingStop = none ∧
      (s.axis a).fifo.length < 4 ∧ (s.axis a).occupancy ≠ 0 ∧ Grants s
  | .admin => s.part = .running ∧ s.admin.state = .waiting ∧ s.admin.occupancy ≠ 0 ∧
      (s.comp.ringSize = 0 ∨ Grants s)

/-- The arbiter's class of a ring (Table 8-2). -/
def ringClass (s : State) : RingId → Nat
  | .axis a =>
    if (s.axis a).state = .starved ∧ (s.axis a).fifo = [] then 1
    else if (s.axis a).fifo.length ≤ 1 then 2 else 4
  | .admin => 3

/-- How far behind the arbiter's position a ring stands in the round robin (R142). -/
def turn (s : State) : RingId → Nat
  | .axis a => (a.val + 3 - s.arbiter.val) % 4
  | .admin => 0

/-! ### Laws of the part -/

/-- R70: each leg's backlog stays within 0..3, and URGENT is set only while the backlog is nonzero; R66:
the request counter stays within 0..R−1. -/
abbrev Monitor.InRange (r : Nat) (m : Monitor) : Prop :=
  m.backlog ≤ 3 ∧ (m.urgent = true → m.backlog ≠ 0) ∧ m.requests < r

/-- The law of the top-up monitors on every leg of every axis (R66, R70), and the bound of the axis's
stolen top-up total (R72). -/
abbrev MonitorsInRange (s : State) : Prop :=
  ∀ a : AxisId, (s.axis a).monitors.u.InRange (s.axis a).config.r ∧
    (s.axis a).monitors.v.InRange (s.axis a).config.r ∧
    (s.axis a).monitors.w.InRange (s.axis a).config.r ∧ (s.axis a).stolenTotal ≤ 65535

/-- R99: an axis has a trip record exactly while it is in TRIPPED. -/
abbrev TripRecordsMatch (s : State) : Prop :=
  ∀ a : AxisId, (s.axis a).tripRecord.isSome = ((s.axis a).state == .tripped)

/-- R80: an arrived set is a subset of the member set, it is empty unless the group is GATHERING, and an
axis stands in the arrived set of no group but the one its arrival mark names. A release on its way goes
to an axis that has an arrival mark and stands in no arrived set any more (R82, R83). -/
abbrev GroupsConsistent (s : State) : Prop :=
  (∀ g : GroupId, (s.group g).arrived &&& ~~~(s.group g).members = 0#4 ∧
    ((s.group g).state ≠ .gathering → (s.group g).arrived = 0#4) ∧
    ∀ a : AxisId, hasAxis (s.group g).arrived a = true →
      (s.axis a).arrival = some g ∧ (s.axis a).releaseSent = false) ∧
  ∀ a : AxisId, (s.axis a).releaseSent = true → (s.axis a).arrival.isSome = true

/-- R137: a FIFO never holds more than 4 records, a read in flight counting as one. -/
abbrev FifosBounded (s : State) : Prop :=
  ∀ a : AxisId, (s.axis a).fifo.length + (s.readInFlight a).toNat ≤ 4

/-- R20, R34: an IDLE or TRIPPED axis holds no record, no mark and no pending stop, and its carrier
stands at 0; R29: an axis is in RUN exactly while it has an active segment; R11, R27, R80: a head that has
arrived or been released has nothing staged before it, and a head is released only in WAIT_RDV, its
arrival mark then gone. -/
abbrev Axis.HoldsByState (x : Axis) : Prop :=
  (x.state.isActive = false → x.staged = none ∧ x.arrival = none ∧ x.released = false ∧
    x.pendingStop = none ∧ x.fifo = [] ∧ x.carrierCount = 0) ∧
  (x.state = .run ↔ x.active.isSome = true) ∧
  (x.arrival.isSome = true → x.staged = none) ∧
  (x.released = true → x.state = .waitRdv ∧ x.arrival = none ∧ x.staged = none)

/-- Every axis holds what its state lets it hold. -/
abbrev AxesHoldByState (s : State) : Prop := ∀ a : AxisId, (s.axis a).HoldsByState

/-- The head of the request queue is being converted, for its own source; the others wait (R116). -/
def ConvRequest.headOk (q : ConvRequest) : Bool :=
  match q.source, q.progress with
  | .axis _, .convertingU | .axis _, .convertingV | .bus, .convertingBus => true
  | _, _ => false

/-- R116: at most one request of each source, the head being converted and the others waiting. -/
abbrev ConversionQueueSound (s : State) : Prop :=
  (s.meas.queue.map (·.source)).Nodup ∧
    (∀ q ∈ s.meas.queue.head?, q.headOk = true) ∧
    ∀ q ∈ s.meas.queue.tail, q.progress = .waiting

/-- The reservations an axis's records and its pending stop hold (R37, R140). -/
def Axis.workHeld (x : Axis) : Nat :=
  x.active.toList.length + x.staged.toList.length + x.fifo.length + x.pendingStop.toList.length

/-- The reservations held by work that has been admitted and not yet handed over: the records and pending
stops of the axes, the read in flight, and the command in execution (R140, R156). -/
def State.workHeld (s : State) : Nat :=
  (s.axis 0).workHeld + (s.axis 1).workHeld + (s.axis 2).workHeld + (s.axis 3).workHeld +
    (s.readTxn.map fun t => t.reserved.toNat).getD 0 + s.admin.current.toList.length

/-- What the admin unit and its read hold together (R139, R171, R187): a command is held only while the
unit is EXECUTING, a snapshot only with a command; an axis read holds a reservation, and a read of the
administrative ring is outstanding only while the unit is FETCHING and holds one when a completion ring
is configured. -/
abbrev AdminHolds (s : State) : Prop :=
  (s.admin.current.isSome = true → s.admin.state = .executing) ∧
    (s.admin.snapshot.isSome = true → s.admin.current.isSome = true) ∧
    ∀ t ∈ s.readTxn, match t.ring with
      | .axis _ => t.reserved = true
      | .admin => s.admin.state = .fetching ∧ t.reserved = (s.comp.ringSize != 0)

/-- R155, R157, R159: every completion waiting and every piece of admitted work holds one reservation and
nothing else does; posted-unconsumed completions plus reservations stay below the ring size, and the
reservations within 16. While RESETTING, where the reservations are only awaited, nothing is claimed. -/
abbrev LedgerBalanced (s : State) : Prop :=
  s.part ≠ .resetting →
    s.comp.reservations = s.comp.queue.length + s.workHeld ∧
    s.comp.reservations ≤ 16 ∧
    (s.comp.ringSize ≠ 0 → s.comp.posted + s.comp.reservations ≤ s.comp.ringSize - 1) ∧
    (s.comp.ringSize = 0 → s.comp.reservations = 0)

/-- The indices of a ring lie in 0..size−1, both 0 when it is unconfigured (R134, R151, R154). -/
abbrev RingOk (size producer consumer : Nat) : Prop :=
  (producer < size ∧ consumer < size) ∨ (size = 0 ∧ producer = 0 ∧ consumer = 0)

/-- R134, R154: every ring's indices lie within it. -/
abbrev IndicesInRange (s : State) : Prop :=
  (∀ a : AxisId, RingOk (s.axis a).ringSize (s.axis a).producer (s.axis a).consumer) ∧
    RingOk s.admin.ringSize s.admin.producer s.admin.consumer ∧
    RingOk s.comp.ringSize s.comp.producer s.comp.consumer

/-- R134, R137, R154, R116: the laws of the FIFOs, of the ring indices and of the converter's queue. -/
abbrev QueuesSound (s : State) : Prop := FifosBounded s ∧ IndicesInRange s ∧ ConversionQueueSound s

/-- The law of the reservations, with the laws it rests on (R155, R157, R159). -/
abbrev ReservationLaw (s : State) : Prop :=
  AxesHoldByState s ∧ AdminHolds s ∧ RingOk s.comp.ringSize s.comp.producer s.comp.consumer ∧
    LedgerBalanced s

/-- Nothing that comes about by itself at an instant is left undone: every leg's dead-time state is that
of its demand (R52), no eligible ring waits at a free read channel (R141), no claimant waits at a free
write channel (R158), and neither QUIESCING nor RESETTING lasts beyond its end (R194, R196). -/
def NothingDue (s : State) : Prop :=
  (∀ a l, (s.gate a l).demand = legDemand s a l) ∧
  (s.readTxn = none → arbiterChoice s = none) ∧
  (s.writeTxn = none → s.part ≠ .failed → s.part ≠ .resetting →
    s.comp.queue = [] ∧ ∀ w ∈ s.admin.snapshot, w.issued = true) ∧
  Steady s

/-- A record's new half-period, if it has one, is legal. -/
abbrev Segment.PeriodOk (cfg : AxisConfig) (seg : Segment) : Prop :=
  seg.newH = 0 ∨ LegalPeriod cfg seg.newH.toNat

/-- R62: every valley load of an axis works with a legal half-period. The configured, shadow and working
half-periods are legal, and so is the new one of a head that will be staged without being validated again
(R5): one that has arrived, unless it is a MARK, and one that has been released, which is no MARK (R27). -/
abbrev PeriodsLegal (s : State) : Prop :=
  ∀ a : AxisId, (s.axis a).HoldsByState ∧
    LegalPeriod (s.axis a).config (s.axis a).config.h ∧
    LegalPeriod (s.axis a).config (s.axis a).shadowH ∧
    LegalPeriod (s.axis a).config (s.axis a).workH ∧
    ((s.axis a).arrival.isSome = true →
      ∃ seg ∈ (s.axis a).fifo.head?, seg.isMark = true ∨ seg.PeriodOk (s.axis a).config) ∧
    ((s.axis a).released = true →
      ∃ seg ∈ (s.axis a).fifo.head?, seg.isMark = false ∧ seg.PeriodOk (s.axis a).config)

/-- A step of the machine keeps a law of the part, from every state in which it holds. -/
def Kept (law : State → Prop) : Prop := ∀ s t, law s → step s = .next t → law t

end Sys2Proof.Machine
end

