-- ==== Sys2Proof/Certificates/Slice0/Obligations.lean ====
section
/-! DEFINITION. The statements for the provers. `Settles s t` says everything about `t`: it is `s` but for
the read and the write that the arbiters then issue and for the legs following their demands, so a
conclusion `exec c s = next t` with `Settles (the state written out) t` gives the command's whole effect
and frame. `reportTaken` and `trippedAt` say what a report of a trip cause does; the model's choice that the
reports of several axes are in flight until each is taken is log entry 10. -/

open Sys2Proof Sys2Proof.Machine

/-! ### The machine -/

/-- A step takes the command at the front of the queue and runs it with the queue's rest. -/
def Obligations.StepRunsFrontCommand : Prop :=
  ∀ (s : State) (c : Instr) (rest : List Instr), s.pending = c :: rest →
    step s = exec c { s with pending := rest }

/-- R46, R53, R117, R200: an idle step is one tick of the modulator clock. Each count of ticks moves; with no
event due that is all; one event due is then taken as its own row takes it, a conversion's result with
codes that nothing constrains. Under reset the part holds its values (R197). That a step on an empty
queue is one tick is the model's choice (log entry 2); what is due with it are log entries 6, 9 and 10. -/
def Obligations.IdleStepCountsOneTick : Prop :=
  ∀ s : State, s.pending = [] →
    (s.resetLow = true → step s = .next s) ∧
    (s.resetLow = false → Steady s → (∀ e, ¬ DueNow s e) →
      ∃ t, step s = .next t ∧ Settles (tickPassed s) t) ∧
    (s.resetLow = false → Steady s → s.reports.Nodup → ∀ e, DueNow s e → (∀ e', DueNow s e' → e' = e) →
      ∃ u codeU codeV, Settles (tickPassed s) u ∧
        step s = exec (tickRow codeU codeV u e)
          (if e = .result then { u with freeCount := u.freeCount + 2 } else u)) ∧
    (s.resetLow = false → s.part ≠ .resetting → ∃ t, step s = .next t ∧
      (s.subTick + 1 < 80 → t.subTick = s.subTick + 1 ∧ t.timebase = s.timebase) ∧
      (80 ≤ s.subTick + 1 → t.subTick = 0 ∧ t.timebase = s.timebase + 1))

/-- R18, R20, R65, R77, R79, R115, R131, R151, R169, R171, R201: the laws of the part hold in the state right
after reset. That no report is in flight then is the model's choice (log entry 14). -/
def Obligations.ResetKeepsEveryLaw : Prop :=
  MonitorsInRange State.reset ∧ TripRecordsMatch State.reset ∧ GroupsConsistent State.reset ∧
    FifosBounded State.reset ∧ AxesHoldByState State.reset ∧ ConversionQueueSound State.reset ∧
    ReservationLaw State.reset ∧ IndicesInRange State.reset ∧ NothingDue State.reset ∧
    PeriodsLegal State.reset ∧ State.reset.reports = []

/-! ### Resets -/

/-- R197, R201 and the reset values of the blocks: a pin reset puts every block at its reset values at
once, but for the input levels, which follow the inputs (R115). As RESETn goes high the part goes on
from the values it holds with a timebase of 0 (R200); that its microsecond begins anew is the model's choice
(log entry 4). -/
def Obligations.PinResetAndRelease : Prop :=
  ∀ s : State,
    (exec .pinReset s = .next { State.reset with
      resetLow := true
      axes := Vector.ofFn fun a => { Axis.reset false with pinActive := (s.axis a).pinActive }
      emergency := s.emergency
      busRead := s.busRead, freeCount := s.freeCount, pending := s.pending }) ∧
    (s.resetLow = true → Steady s →
      ∃ t, exec .resetRelease s = .next t ∧
        Settles { s with resetLow := false, timebase := 0, subTick := 0 } t)

/-- R147, R168, R194, R196: at the first instant at which neither channel carries a transaction RESETTING
ends, and every block takes its reset values; until then each response, and the timeout of each transaction
whose counter runs, is awaited and discarded. QUIESCING ends at the instant the reservation count is 0, the
part then being DISABLED with QUIESCED, bit 4 of ICAUSE, raised. The model's choices are that the microsecond
begins anew with the reset values (log entry 4), and that the rows RESETTING_END and QUIESCE_END do nothing in
any other part state and before their condition holds (log entry 8). -/
def Obligations.ResettingAndQuiesceEnd : Prop :=
  ∀ s : State,
    let reset := { State.reset with
      resetLow := s.resetLow
      axes := Vector.ofFn fun a => { Axis.reset false with pinActive := (s.axis a).pinActive }
      emergency := s.emergency
      busRead := s.busRead, freeCount := s.freeCount, pending := s.pending }
    (s.part = .resetting →
      (s.readTxn = none → s.writeTxn = none → exec .resettingEnd s = .next reset) ∧
      (s.readTxn ≠ none ∨ s.writeTxn ≠ none →
        ∃ t, exec .resettingEnd s = .next t ∧ Settles s t) ∧
      (∀ r, s.readTxn = some r →
        let row := fun record => (match r.ring with
          | .axis _ => [Instr.axisReadReturn record, .axisReadError]
          | .admin => [Instr.adminReadReturn record, .adminReadError]) ++
            if r.counter = none then [] else [.portTimeout .read]
        ∀ record, ∀ c ∈ row record,
          (s.writeTxn = none → exec c s = .next reset) ∧
          (s.writeTxn ≠ none → ∃ t, exec c s = .next t ∧ Settles { s with readTxn := none } t)) ∧
      (∀ w, s.writeTxn = some w →
        let row := (match w.kind with
          | .completion => [Instr.completionWriteOk, .completionWriteError]
          | .snapshot => [Instr.snapshotWriteResponse true, .snapshotWriteResponse false]) ++
            if w.counter = none then [] else [.portTimeout .write]
        ∀ c ∈ row,
          (s.readTxn = none → exec c s = .next reset) ∧
          (s.readTxn ≠ none → ∃ t, exec c s = .next t ∧ Settles { s with writeTxn := none } t))) ∧
    (s.part = .quiescing →
      (s.comp.reservations = 0 → ∃ t, exec .quiesceEnd s = .next t ∧
        Settles { s with part := .disabled, icause := s.icause ||| 0b010000#6 } t) ∧
      (s.comp.reservations ≠ 0 → ∃ t, exec .quiesceEnd s = .next t ∧ Settles s t)) ∧
    (s.part ≠ .resetting → Steady s → ∃ t, exec .resettingEnd s = .next t ∧ Settles s t) ∧
    (s.part ≠ .quiescing → Steady s → ∃ t, exec .quiesceEnd s = .next t ∧ Settles s t)

/-- R79, R118, R119, R168, R177, R196: a soft reset with no transaction outstanding ends in the same event;
otherwise the part is RESETTING with every leg demanding neither side, the requests of active axes stale,
the timers stopped, a snapshot not yet issued abandoned, the outstanding transactions awaited, those issued
with timeout 0 given 255 µs, and everything else as it was. The bits ENABLE and ADMIN_RESTART are ignored.
The model's choices are that the microsecond begins anew with the reset values (log entry 4) and that axis
states, carrier counts and the admin unit's state stand until then (log entry 27). -/
def Obligations.SoftResetAwaitsTransactions : Prop :=
  ∀ (s : State) (enable restart : Bool), s.live = true →
    (s.readTxn = none → s.writeTxn = none →
      exec (.softReset enable restart) s = .next { State.reset with
        axes := Vector.ofFn fun a => { Axis.reset false with pinActive := (s.axis a).pinActive }
        emergency := s.emergency
        busRead := s.busRead, freeCount := s.freeCount, pending := s.pending }) ∧
    (s.readTxn ≠ none ∨ s.writeTxn ≠ none →
      ∃ t, exec (.softReset enable restart) s = .next t ∧
        (∀ a l, (t.gate a l).demand = .neither) ∧
        Settles { s with
          part := .resetting
          readTxn := s.readTxn.map fun x => { x with counter := some (x.counter.getD 255) }
          writeTxn := s.writeTxn.map fun x => { x with counter := some (x.counter.getD 255) }
          groups := Vector.ofFn fun g => { s.group g with timer := none }
          meas := { s.meas with
            busTimer := none
            queue := s.meas.queue.map fun q => match q.source with
              | .axis a => if s.activeAxis a = true then { q with stale := true } else q
              | .bus => q }
          comp := { s.comp with coalescingTimer := none }
          admin := { s.admin with snapshot := s.admin.snapshot.filter (·.issued) } } t)

/-! ### The control register -/

/-- R191, R193: ENABLE written 1 makes a DISABLED part RUNNING with the bus interval timer at 10, and
has no effect on the part state otherwise; ADMIN_RESTART, where it is written, restarts a halted unit
(R175). -/
def Obligations.SetEnableRunsDisabledPart : Prop :=
  ∀ (s : State) (restart : Bool), s.live = true → Steady s →
    let admin := if restart = true ∧ s.admin.state = .halted then
      { s.admin with state := .waiting, haltReason := .none } else s.admin
    ∃ t, exec (.setEnable restart) s = .next t ∧
      Settles (if s.part = .disabled then
          { s with part := .running, meas := { s.meas with busTimer := some 10 }, admin := admin }
        else { s with admin := admin }) t

/-- R109, R191, R194: ENABLE written 0 takes a RUNNING part to QUIESCING, or through it to DISABLED with
QUIESCED raised when no reservation is held, and stops the bus interval timer; every active axis trips
with HOST_DISABLE, and IDLE axes stay IDLE. Where one axis is active and no other stands in an arrived set,
its trip (its completions, the groups it breaks and TRIP in ICAUSE, as `trippedAt` gives them) and that are
all. In any other part state it has no effect on the part state. That these trips come within the one event,
with its timestamp, is the model's choice (log entry 10). -/
def Obligations.ClearEnableQuiesces : Prop :=
  ∀ (s : State) (restart : Bool), s.live = true → Steady s →
    let admin := if restart = true ∧ s.admin.state = .halted then
      { s.admin with state := .waiting, haltReason := .none } else s.admin
    ((∀ a, s.activeAxis a = false) ∨ s.part ≠ .running →
      ∃ t, exec (.clearEnable restart) s = .next t ∧
      Settles (if s.part = .running then
          if s.comp.reservations = 0 then
            { s with part := .disabled, icause := s.icause ||| 0b010000#6
                     meas := { s.meas with busTimer := none }, admin := admin }
          else { s with part := .quiescing, meas := { s.meas with busTimer := none }, admin := admin }
        else { s with admin := admin }) t) ∧
    (s.part = .running → ∀ a, s.activeAxis a = true →
      (∀ b ≠ a, s.activeAxis b = false ∧ ∀ g, hasAxis (s.group g).arrived b = false) →
      let u := trippedAt a .hostDisable { s with
        part := .quiescing, meas := { s.meas with busTimer := none }, admin := admin }
      ∃ t, exec (.clearEnable restart) s = .next t ∧
        Settles (if s.comp.reservations = 0 then
          { u with part := .disabled, icause := u.icause ||| 0b010000#6 } else u) t) ∧
    (s.part = .running → ∃ t, exec (.clearEnable restart) s = .next t ∧
      (t.part = .quiescing ∨ t.part = .disabled) ∧ t.meas.busTimer = none ∧ t.reports = s.reports ∧
      (∀ a, s.activeAxis a = true → TrippedBy .hostDisable s t a) ∧
      ∀ a, s.activeAxis a = false → (∀ g, hasAxis (s.group g).arrived a = false) →
        t.axis a = s.axis a)

/-- R175, R191: ADMIN_RESTART takes a HALTED unit to WAITING with halt reason NONE and does nothing to a
unit in another state. The ENABLE bit it carries acts as in a write without it. -/
def Obligations.AdminRestartLeavesHalted : Prop :=
  ∀ (s : State) (enable : Bool), s.live = true → Steady s →
    let admin := if s.admin.state = .halted then
      { s.admin with state := .waiting, haltReason := .none } else s.admin
    ((enable = true → s.part ≠ .disabled) → (enable = false → s.part ≠ .running) →
      ∃ t, exec (.adminRestart enable) s = .next t ∧ Settles { s with admin := admin } t) ∧
    (enable = true → exec (.adminRestart enable) s = exec (.setEnable true) s) ∧
    (enable = false → exec (.adminRestart enable) s = exec (.clearEnable true) s)

/-! ### The other registers -/

/-- R192, R204: ADMRING takes a base and an allowed size code in DISABLED and zeroes both indices; any
other write of it is ignored and records REGISTER. -/
def Obligations.AdmringAcceptedInDisabled : Prop :=
  ∀ (s : State) (value : Word), s.live = true → Steady s →
    let code := value.toNat % 16
    (s.part = .disabled → code = 0 ∨ (2 ≤ code ∧ code ≤ 12) →
      ∃ t, exec (.admringWrite value) s = .next t ∧
        Settles { s with admin := { s.admin with
          ringBase := BitVec.ofNat 32 (value.toNat / 64 * 64)
          ringSize := if code = 0 then 0 else 2 ^ code, consumer := 0, producer := 0 } } t) ∧
    (s.part ≠ .disabled ∨ code = 1 ∨ 12 < code →
      ∃ t, exec (.admringWrite value) s = .next t ∧ Settles (faulted 15 s) t)

/-- R135, R162: a write of a producer index or of CCONS is refused with INDEX, bit 14 of the fault summary,
when it is not below the ring's size, retracts the occupancy, or takes CCONS past the producer index;
else it is taken. -/
def Obligations.RingIndexWritesAreJudged : Prop :=
  ∀ (s : State) (value : Word), s.live = true → Steady s →
    let retracts := fun (size consumer producer : Nat) => size ≤ value.toNat ∨
      ((value.toNat : Int) - consumer) % size < ((producer : Int) - consumer) % size
    let refused := fun (i : Instr) => ∃ t, exec i s = .next t ∧ Settles (faulted 14 s) t
    (∀ a, let x := s.axis a
      RingOk x.ringSize x.producer x.consumer →
      (retracts x.ringSize x.consumer x.producer → refused (.producerIndexWrite (.axis a) value)) ∧
      (¬ retracts x.ringSize x.consumer x.producer →
        ∃ t, exec (.producerIndexWrite (.axis a) value) s = .next t ∧
          Settles (s.setAxis a { x with producer := value.toNat }) t)) ∧
    (RingOk s.admin.ringSize s.admin.producer s.admin.consumer →
      let x := s.admin
      (retracts x.ringSize x.consumer x.producer → refused (.producerIndexWrite .admin value)) ∧
      (¬ retracts x.ringSize x.consumer x.producer →
        ∃ t, exec (.producerIndexWrite .admin value) s = .next t ∧
          Settles { s with admin := { x with producer := value.toNat } } t)) ∧
    (RingOk s.comp.ringSize s.comp.producer s.comp.consumer →
      let x := s.comp
      let passes := x.ringSize ≤ value.toNat ∨
        ((x.producer : Int) - x.consumer) % x.ringSize < ((value.toNat : Int) - x.consumer) % x.ringSize
      (passes → refused (.cconsWrite value)) ∧
      (¬ passes → ∃ t, exec (.cconsWrite value) s = .next t ∧
        Settles { s with comp := { x with consumer := value.toNat } } t))

/-- R167: IRQn is low exactly while a cause and its enable are both set. An IMASK write replaces the enables
and clears no cause, an ICAUSE write (whatever it clears) leaves the enables, and ICAUSE shows every cause
whether or not it is enabled. -/
def Obligations.InterruptRegistersAndLine : Prop :=
  ∀ (s : State) (value : Word),
    (s.irqLow = true ↔ ∃ i < 6, s.icause.getLsbD i = true ∧ s.imask.getLsbD i = true) ∧
    (∃ t, exec (.imaskWrite value) s = .next t ∧ t = { s with imask := t.imask } ∧
      ∀ i < 6, t.imask.getLsbD i = if s.live = true then value.getLsbD i else s.imask.getLsbD i) ∧
    (∃ t, exec (.icauseWrite value) s = .next t ∧ t = { s with icause := t.icause }) ∧
    (s.resetLow = false → ∀ i < 6, (readWindow s 0x28).getLsbD i = s.icause.getLsbD i)

/-- R166, R189, R190, R198, R204: what the register window reads, by Tables 12-8 and 12-9; a narrower read
returns the addressed bytes of the register that contains them. A read of FSUM returns the summary and
clears it in one event. A write of ICAUSE clears the causes written as 1; a write the window ignores records
REGISTER; in RESETTING and while RESETn is low a write of any register changes nothing and records
nothing, and while RESETn is low every read returns 0. That the addressed bytes come lowest first from bit 0
is the model's choice (log entry 29). -/
def Obligations.FaultSummaryReadAndIgnoredWrites : Prop :=
  ∀ (s : State) (offset : BitVec 6) (narrow : Bool),
    (s.resetLow = true → ∀ width, readAccess s offset width = 0) ∧
    (s.resetLow = false →
      readWindow s 0x00 = 0x0B744061 ∧
      readWindow s 0x04 = (if s.part = .running then 1 else 0) ∧
      (let stat := readWindow s 0x08
       (stat.extractLsb' 0 4).toNat = s.part.code ∧ (stat.extractLsb' 4 2).toNat = s.admin.state.code ∧
         (stat.extractLsb' 6 2).toNat = s.admin.haltReason.code ∧
         (∀ a : AxisId, (stat.extractLsb' (8 + 3 * a.val) 3).toNat = (s.axis a).state.code ∧
           stat.getLsbD (20 + a.val) = (s.axis a).pinActive) ∧
         stat.getLsbD 24 = s.emergency ∧ stat.getLsbD 25 = s.ovFlag ∧ stat.getLsbD 26 = s.uvFlag ∧
         stat.extractLsb' 27 5 = 0) ∧
      (∀ code, (code = 0 ∧ s.admin.ringSize = 0) ∨ (2 ≤ code ∧ code ≤ 12 ∧ s.admin.ringSize = 2 ^ code) →
        (readWindow s 0x0C).extractLsb' 6 26 = s.admin.ringBase.extractLsb' 6 26 ∧
        (s.admin.ringBase.toNat % 64 = 0 → ((readWindow s 0x0C).extractLsb' 0 6).toNat = code)) ∧
      (∀ a : AxisId, readWindow s (0x10 + 4 * BitVec.ofNat 6 a.val) = BitVec.ofNat 32 (s.axis a).producer) ∧
      readWindow s 0x20 = BitVec.ofNat 32 s.admin.producer ∧
      readWindow s 0x24 = BitVec.ofNat 32 s.comp.consumer ∧
      readWindow s 0x28 = BitVec.ofNat 32 s.icause.toNat ∧
      readWindow s 0x2C = BitVec.ofNat 32 s.imask.toNat ∧
      readWindow s 0x30 = BitVec.ofNat 32 s.fsum.toNat ∧
      (0x34#6 ≤ offset → readWindow s offset = 0) ∧
      (readAccess s offset .word = readWindow s offset) ∧
      ((readAccess s offset .byte).toNat =
        (readWindow s (offset &&& 0x3C#6)).toNat / 2 ^ (8 * (offset.toNat % 4)) % 2 ^ 8) ∧
      ((readAccess s offset .half).toNat =
        (readWindow s (offset &&& 0x3C#6)).toNat / 2 ^ (8 * (offset.toNat % 4)) % 2 ^ 16)) ∧
    (∀ (lane : BitVec 2) (width : AccessWidth), exec (.fsumRead lane width) s = .next { s with
      busRead := readAccess s (0x30#6 + lane.setWidth 6) width, fsum := 0 }) ∧
    (∀ value : Word, s.live = true → ∃ t, exec (.icauseWrite value) s = .next t ∧
      t = { s with icause := t.icause } ∧
      ∀ i < 6, t.icause.getLsbD i = (s.icause.getLsbD i && !value.getLsbD i)) ∧
    (s.live = true → exec (.registerWriteIgnored offset narrow) s = .next (faulted 15 s)) ∧
    (s.live = false → Steady s → ∀ (value : Word) (ring : RingId) (x y : Bool),
      ∀ c ∈ [Instr.setEnable x, .clearEnable x, .softReset x y, .adminRestart x, .admringWrite value,
          .producerIndexWrite ring value, .cconsWrite value, .icauseWrite value, .imaskWrite value,
          .registerWriteIgnored offset narrow],
        ∃ t, exec c s = .next t ∧ (t = s ∨ Settles s t))

/-! ### The inputs -/

/-- R95, R100, R102, R105, R115: a trip pin becoming inactive changes its level alone. A pin becoming active
sets its level and reports PIN, which its axis takes at once; in RESETTING and under reset only the level
changes, and a pin already active makes no report. The emergency input becoming inactive changes its level
alone; that an EMERGENCY report still in flight is taken first is the model's choice (log entry 30). -/
def Obligations.InputLevels : Prop :=
  ∀ (s : State) (a : AxisId),
    exec (.tripPinInactive a) s = .next (s.setAxis a { s.axis a with pinActive := false }) ∧
    (Steady s → (∀ r ∈ s.reports, r.cause ≠ .emergency) →
      ∃ t, exec .emergencyInactive s = .next t ∧ Settles { s with emergency := false } t) ∧
    (Steady s → s.live = true → s.reports.filter (fun r => r.cause = .emergency) = [⟨a, .emergency⟩] →
      ∃ t, exec .emergencyInactive s = .next t ∧
        Settles { reportTaken a .emergency { s with reports := s.reports.erase ⟨a, .emergency⟩ } with
          emergency := false } t) ∧
    (Steady s → (s.axis a).pinActive = true →
      ∃ t, exec (.tripPinActive a) s = .next t ∧ Settles s t) ∧
    (Steady s → (s.axis a).pinActive = false → ∃ t, exec (.tripPinActive a) s = .next t ∧
      Settles (reportTaken a .pin (s.setAxis a { s.axis a with pinActive := true })) t)

/-- R94, R95, R104, R115: the emergency input becoming active makes every leg demand neither side in every
part state, and where the part takes events it reports EMERGENCY for each of the four axes, which are then
in flight, each to be taken at its own instant (log entry 10). An input that is active already does
nothing. -/
def Obligations.EmergencyForcesEveryLeg : Prop :=
  ∀ s : State, Steady s →
    (s.emergency = true → ∃ t, exec .emergencyActive s = .next t ∧ Settles s t) ∧
    (s.emergency = false → ∃ t, exec .emergencyActive s = .next t ∧
      (∀ a l, (t.gate a l).demand = .neither) ∧
      Settles { s with
        emergency := true
        reports := if s.live = true then
          s.reports ++ [⟨0, .emergency⟩, ⟨1, .emergency⟩, ⟨2, .emergency⟩, ⟨3, .emergency⟩]
          else s.reports } t)

/-! ### The administrative commands

That such a row, with a read of the administrative ring outstanding, is that read's OK return carrying the
command is the model's choice (log entry 7); `CommandReturns` is that state. -/

/-- R163, R176, R178: SET_COMPLETION_RING with invalid arguments completes INVALID; while an axis is not IDLE,
a completion is posted or a reservation other than its own is held it is REFUSED with RING_BUSY; else the
ring is set up empty with lap value 1 and the command's own completion is the first on it. With no ring
configured it is taken all the same, and where it is INVALID or REFUSED its completion is discarded. -/
def Obligations.SetCompletionRingMovesRing : Prop :=
  ∀ (s : State) (tag : Half) (base : Word) (size : Half),
    let moved := { s with comp := { s.comp with
      ringBase := base, ringSize := size.toNat, producer := 0, consumer := 0, lap := true
      coalescingCount := 0, coalescingTimer := none, reservations := 1 } }
    (CommandReturns s →
      let free := (∀ a, (s.axis a).state = .idle) ∧ s.comp.posted = 0 ∧ s.comp.reservations = 1
      (¬ RingArguments base size → ∃ t, exec (.setCompletionRing tag base size) s = .next t ∧
        Settles (afterCommand s (invalidCompletion tag)) t) ∧
      (RingArguments base size → ¬ free → ∃ t, exec (.setCompletionRing tag base size) s = .next t ∧
        Settles (afterCommand s (refusedCompletion tag .ringBusy)) t) ∧
      (RingArguments base size → free → ∃ t, exec (.setCompletionRing tag base size) s = .next t ∧
        Settles (afterCommand moved (okCompletion tag .zero)) t)) ∧
    (s.live = true → s.part = .running → s.comp.ringSize = 0 →
      s.admin.state = .fetching → 0 < s.admin.occupancy →
      s.readTxn.map (fun t => (t.ring, t.reserved)) = some (RingId.admin, false) →
      let free := (∀ a, (s.axis a).state = .idle) ∧ s.comp.posted = 0 ∧ s.comp.reservations = 0
      (¬ RingArguments base size ∨ ¬ free → ∃ t, exec (.setCompletionRing tag base size) s = .next t ∧
        Settles (commandEnded s) t) ∧
      (RingArguments base size → free → ∃ t, exec (.setCompletionRing tag base size) s = .next t ∧
        Settles (afterCommand moved (okCompletion tag .zero)) t))

/-- R180: SET_GLOBAL with an argument out of range completes INVALID and changes no value; else all seven
values are replaced together. -/
def Obligations.SetGlobalReplacesSettings : Prop :=
  ∀ (s : State) (tag : Half) (rt wt k f : Byte) (w ov uv : Half), CommandReturns s →
    let valid := 1 ≤ k.toNat ∧ 1 ≤ f.toNat ∧ f.toNat ≤ 8 ∧ ov.toNat ≤ 4095 ∧ uv.toNat ≤ 4095
    (¬ valid → ∃ t, exec (.setGlobal tag rt wt k f w ov uv) s = .next t ∧
      Settles (afterCommand s (invalidCompletion tag)) t) ∧
    (valid → ∃ t, exec (.setGlobal tag rt wt k f w ov uv) s = .next t ∧
      Settles (afterCommand { s with globals :=
        { readTimeout := rt.toNat, writeTimeout := wt.toNat, k := k.toNat, w := w.toNat
          ovLimit := ov.toNat, uvLimit := uv.toNat, f := f.toNat } } (okCompletion tag .zero)) t)

/-- R136, R179: SET_AXIS_RING with invalid arguments completes INVALID; for an axis that is not IDLE with
an empty FIFO it is REFUSED with WRONG_STATE; else the ring stands empty at its new place. -/
def Obligations.SetAxisRingEmptiesRing : Prop :=
  ∀ (s : State) (tag : Half) (axis : Byte) (base : Word) (size : Half), CommandReturns s →
    (4 ≤ axis.toNat ∨ ¬ RingArguments base size →
      ∃ t, exec (.setAxisRing tag axis base size) s = .next t ∧
        Settles (afterCommand s (invalidCompletion tag)) t) ∧
    ∀ a : AxisId, axis.toNat = a.val → RingArguments base size →
      ((s.axis a).state ≠ .idle ∨ (s.axis a).fifo ≠ [] →
        ∃ t, exec (.setAxisRing tag axis base size) s = .next t ∧
          Settles (afterCommand s (refusedCompletion tag .wrongState)) t) ∧
      ((s.axis a).state = .idle → (s.axis a).fifo = [] →
        ∃ t, exec (.setAxisRing tag axis base size) s = .next t ∧
          Settles (afterCommand (s.setAxis a { s.axis a with
            ringBase := base, ringSize := size.toNat, producer := 0, consumer := 0 })
            (okCompletion tag .zero)) t)

/-- R62, R64, R76, R181: CONFIGURE_AXIS with an argument out of range or an illegal combination completes
INVALID; for an axis that is not IDLE it is REFUSED with WRONG_STATE; else the configuration is replaced
whole, H goes to the modulator, and the monitors clear. -/
def Obligations.ConfigureAxisReplacesConfiguration : Prop :=
  ∀ (s : State) (tag : Half) (axis d m r : Byte) (h tBoot np g limit : Half) (n pattern : Byte),
    CommandReturns s →
    let valid := 64 ≤ h.toNat ∧ h.toNat ≤ 32767 ∧ tBoot.toNat ≤ 4095 ∧ d.toNat + m.toNat < h.toNat ∧
      (tBoot.toNat = 0 ∨ (m.toNat ≤ tBoot.toNat ∧ tBoot.toNat + d.toNat ≤ 2 * h.toNat)) ∧
      1 ≤ r.toNat ∧ 1 ≤ np.toNat ∧ 1 ≤ limit.toNat ∧ limit.toNat ≤ 2047 ∧
      1 ≤ n.toNat ∧ n.toNat ≤ 8 ∧ pattern.toNat ≤ 1
    (4 ≤ axis.toNat ∨ ¬ valid →
      ∃ t, exec (.configureAxis tag axis d m r h tBoot np g limit n pattern) s = .next t ∧
        Settles (afterCommand s (invalidCompletion tag)) t) ∧
    ∀ a : AxisId, axis.toNat = a.val → valid →
      ((s.axis a).state ≠ .idle →
        ∃ t, exec (.configureAxis tag axis d m r h tBoot np g limit n pattern) s = .next t ∧
          Settles (afterCommand s (refusedCompletion tag .wrongState)) t) ∧
      ((s.axis a).state = .idle →
        ∃ t, exec (.configureAxis tag axis d m r h tBoot np g limit n pattern) s = .next t ∧
          Settles (afterCommand (s.setAxis a { s.axis a with
            config := { h := h.toNat, d := d.toNat, m := m.toNat, tBoot := tBoot.toNat, r := r.toNat
                        np := np.toNat, g := g.toNat
                        pattern := if pattern.toNat = 0 then .allOff else .lowOn
                        currentLimit := limit.toNat, n := n.toNat }
            configured := true, shadowH := h.toNat, workH := h.toNat
            monitors := ⟨⟨0, 0, false⟩, ⟨0, 0, false⟩, ⟨0, 0, false⟩⟩ })
            (okCompletion tag .zero)) t)

/-- R21, R182, R183: START_AXIS tests its conditions in order, the first that fails naming the refusal;
with none failing the axis enters PRECHARGE at a valley of a carrier starting from 0, and the result
carries the ring's consumer index and occupancy. That a report in flight to the axis is dropped, having found
it IDLE, is the model's choice (log entry 30). -/
def Obligations.StartAxisEntersPrecharge : Prop :=
  ∀ (s : State) (tag : Half) (axis : Byte), CommandReturns s →
    (4 ≤ axis.toNat → ∃ t, exec (.startAxis tag axis) s = .next t ∧
      Settles (afterCommand s (invalidCompletion tag)) t) ∧
    ∀ a : AxisId, axis.toNat = a.val →
      let x := s.axis a
      let refusal : Option Detail :=
        if x.state ≠ .idle then some .wrongState
        else if x.configured = false then some .notConfigured
        else if x.ringSize = 0 then some .noRing
        else if x.pinActive = true then some .tripActive
        else if s.emergency = true then some .emergencyActive
        else if s.ovFlag = true ∨ s.uvFlag = true then some .busFault
        else none
      (∀ reason, refusal = some reason → ∃ t, exec (.startAxis tag axis) s = .next t ∧
        Settles (afterCommand s (refusedCompletion tag reason)) t) ∧
      (refusal = none → ∃ t, exec (.startAxis tag axis) s = .next t ∧
        Settles (afterCommand (startedAt a s)
          (okCompletion tag (.startAxis x.consumer
            ((x.producer + x.ringSize - x.consumer) % x.ringSize)))) t)

/-- R36, R37, R43, R90, R184: STOP_AXIS by axis state and mode: OK with skip count 0 for an IDLE axis, REFUSED
with WRONG_STATE for a TRIPPED one; for an active axis AT_SEGMENT_END becomes the pending stop, or is
REFUSED with STOP_PENDING where one is pending, and leaves what is on its way to the axis. Before an
IMMEDIATE stop takes effect, what its group has already sent to the active axis is taken: a release on its
way (log entry 6), or the trip of a report in flight (log entry 30). -/
def Obligations.StopAxisAnswersByState : Prop :=
  ∀ (s : State) (tag : Half) (axis mode : Byte), CommandReturns s →
    (4 ≤ axis.toNat ∨ 2 ≤ mode.toNat → ∃ t, exec (.stopAxis tag axis mode) s = .next t ∧
      Settles (afterCommand s (invalidCompletion tag)) t) ∧
    ∀ a : AxisId, axis.toNat = a.val → mode.toNat ≤ 1 →
      ((s.axis a).state = .idle → ∃ t, exec (.stopAxis tag axis mode) s = .next t ∧
        Settles (afterCommand s (okCompletion tag (.stopAxis 0))) t) ∧
      ((s.axis a).state = .tripped → ∃ t, exec (.stopAxis tag axis mode) s = .next t ∧
        Settles (afterCommand s (refusedCompletion tag .wrongState)) t) ∧
      (s.activeAxis a = true → mode = 0 →
        ((s.axis a).pendingStop = none → ∃ t, exec (.stopAxis tag axis mode) s = .next t ∧
          Settles (commandEnded (s.setAxis a { s.axis a with pendingStop := some tag })) t) ∧
        ((s.axis a).pendingStop ≠ none → ∃ t, exec (.stopAxis tag axis mode) s = .next t ∧
          Settles (afterCommand s (refusedCompletion tag .stopPending)) t)) ∧
      (mode = 1 → groupReports s a = [] → ReleaseOnItsWay (s.axis a) →
        exec (.stopAxis tag axis mode) s = exec (.stopAxis tag axis mode) (withRelease a s)) ∧
      (∀ cause, mode = 1 → s.activeAxis a = true → groupReports s a = [⟨a, cause⟩] →
        exec (.stopAxis tag axis mode) s = exec (.stopAxis tag axis mode)
          (reportTaken a cause { s with reports := s.reports.erase ⟨a, cause⟩ }))

/-- R39, R40, R41: an IMMEDIATE stop of an active axis takes effect at once. In this order the active
segment completes ABORTED, the staged and the FIFO records FLUSHED, a pending stop PREEMPTED and the stop
itself OK with the records skipped; the axis departs its group, is IDLE, and its ring is skipped. (What its
group has sent to the axis is taken first, as the statement on STOP_AXIS says.) -/
def Obligations.ImmediateStopEndsEverything : Prop :=
  ∀ (s : State) (tag : Half) (axis : Byte) (a : AxisId), CommandReturns s →
    axis.toNat = a.val → s.activeAxis a = true → groupReports s a = [] → (s.axis a).releaseSent = false →
    let x := s.axis a
    let skip := if x.ringSize = 0 then 0 else (x.producer + x.ringSize - x.consumer) % x.ringSize
    let done :=
      (x.active.toList.map fun g =>
        segmentCompletion a g.seg .aborted .none (g.index + 1) g.stats) ++
      notPlayed a .flushed .none x.staged.toList ++ notPlayed a .flushed .none x.fifo ++
      stopCompletion x .ok .preempted 0 ++ [okCompletion tag (.stopAxis skip)]
    ∃ t, exec (.stopAxis tag axis 1) s = .next t ∧
      Settles (commandEnded { (departed a s).setAxis a { x.idled with consumer := x.producer } with
        comp := { s.comp with queue := s.comp.queue ++ done }
        meas := { s.meas with queue := staleFor a s.meas.queue } }) t

/-- R110 to R113, R185: CLEAR_FAULT is refused for an axis not TRIPPED, with its pin active, or with the
emergency input active, in that order; else the trip record goes into its completion, with the records
skipped for FLUSH, and the axis is IDLE with its overcurrent run at 0. -/
def Obligations.ClearFaultReturnsTripRecord : Prop :=
  ∀ (s : State) (tag : Half) (axis disposition : Byte), CommandReturns s →
    (4 ≤ axis.toNat ∨ 2 ≤ disposition.toNat →
      ∃ t, exec (.clearFault tag axis disposition) s = .next t ∧
        Settles (afterCommand s (invalidCompletion tag)) t) ∧
    ∀ a : AxisId, axis.toNat = a.val → disposition.toNat ≤ 1 →
      let x := s.axis a
      let refusal : Option Detail :=
        if x.state ≠ .tripped then some .wrongState
        else if x.pinActive = true then some .tripActive
        else if s.emergency = true then some .emergencyActive
        else none
      let skip := if x.ringSize = 0 then 0 else (x.producer + x.ringSize - x.consumer) % x.ringSize
      (∀ reason, refusal = some reason → ∃ t, exec (.clearFault tag axis disposition) s = .next t ∧
        Settles (afterCommand s (refusedCompletion tag reason)) t) ∧
      (∀ r, refusal = none → x.tripRecord = some r →
        ∃ t, exec (.clearFault tag axis disposition) s = .next t ∧
        Settles (afterCommand (s.setAxis a { x with
          tripRecord := none, overcurrentRun := 0, state := .idle
          consumer := if disposition = 1 then x.producer else x.consumer })
          ⟨tag, .admin, .ok, .trip r.first, .admin (.clearFault r.timestamp r.later
            (if disposition = 1 then skip else 0))⟩) t)

/-- R91, R92, R186: DEFINE_GROUP with a group over 7 or a timeout of 0 completes INVALID; for a GATHERING
group it is REFUSED with GROUP_BUSY; else the entry is IDLE with the new members and timeout, and its
generation kept. The result carries the state the group had and its generation. -/
def Obligations.DefineGroupReplacesEntry : Prop :=
  ∀ (s : State) (tag : Half) (group members : Byte) (timeout : Half), CommandReturns s →
    (8 ≤ group.toNat ∨ timeout.toNat = 0 →
      ∃ t, exec (.defineGroup tag group members timeout) s = .next t ∧
        Settles (afterCommand s (invalidCompletion tag)) t) ∧
    ∀ g : GroupId, group.toNat = g.val → timeout.toNat ≠ 0 →
      let x := s.group g
      (x.state = .gathering → ∃ t, exec (.defineGroup tag group members timeout) s = .next t ∧
        Settles (afterCommand s ⟨tag, .admin, .refused, .groupBusy,
          .admin (.defineGroup .gathering x.generation)⟩) t) ∧
      (x.state ≠ .gathering → ∃ t, exec (.defineGroup tag group members timeout) s = .next t ∧
        Settles (afterCommand (s.setGroup g
          { members := BitVec.ofNat 4 members.toNat, timeout := timeout.toNat, state := .idle
            arrived := 0, generation := x.generation, timer := none })
          (okCompletion tag (.defineGroup x.state x.generation))) t)

/-- R187, R188: READ_AXIS with invalid arguments completes INVALID; else it forms the snapshot of the axis
at the instant it is taken and stays in execution, claiming the write channel, until the write's
response. -/
def Obligations.ReadAxisFormsSnapshot : Prop :=
  ∀ (s : State) (tag : Half) (axis : Byte) (address : Word), CommandReturns s →
    (4 ≤ axis.toNat ∨ address.toNat % 64 ≠ 0 →
      ∃ t, exec (.readAxis tag axis address) s = .next t ∧
        Settles (afterCommand s (invalidCompletion tag)) t) ∧
    ∀ a : AxisId, axis.toNat = a.val → address.toNat % 64 = 0 →
      ∃ t, exec (.readAxis tag axis address) s = .next t ∧
        Settles { commandEnded s with admin := { (commandEnded s).admin with
          state := .executing, current := some ⟨tag, .readAxis axis address⟩
          snapshot := some ⟨address, snapshotBytes s a, s.timebase, false⟩ } } t

/-! ### The host memory port -/

/-- R144, R147, R149, R174: an OK return of an axis read is placed at the FIFO's tail with the consumer index
advanced while the axis is active in RUNNING; else it is dropped and its reservation released. A START_AXIS,
SET_AXIS_RING or CLEAR_FAULT that waited for it is then tested and takes effect, with the slot still first
in the ring; any other command in execution goes on. That a return in FAILED is dropped also before the
axis has taken its POST_FAULT report is log entry 31. -/
def Obligations.AxisReadReturnPlacesOrDrops : Prop :=
  ∀ (s : State) (record : List Byte) (a : AxisId) (address : Word) (counter : Option Nat),
    s.live = true → Steady s → s.readTxn = some ⟨.axis a, address, true, counter⟩ →
    let x := s.axis a
    let dropped := { s with readTxn := none
                            comp := { s.comp with reservations := s.comp.reservations - 1 } }
    ((∀ c, ¬ WaitsFor s a c) → s.activeAxis a = true → s.part = .running → x.ringSize ≠ 0 →
      ∃ t, exec (.axisReadReturn record) s = .next t ∧
        Settles { s.setAxis a { x with fifo := x.fifo ++ [decodeSegment record]
                                       consumer := (x.consumer + 1) % x.ringSize } with
          readTxn := none } t) ∧
    (s.activeAxis a = false ∨ s.part ≠ .running → (s.part = .quiescing → 1 < s.comp.reservations) →
      ((∀ c, ¬ WaitsFor s a c) →
        ∃ t, exec (.axisReadReturn record) s = .next t ∧ Settles dropped t) ∧
      ∀ c, WaitsFor s a c → (x.state = .tripped → x.tripRecord ≠ none) →
        ∃ t, exec (.axisReadReturn record) s = .next t ∧
          Settles (ended (waitedCommand c a dropped).1 (waitedCommand c a dropped).2) t)

/-- R146, R172, R173, R176: the OK return of an administrative read is the command its record carries, or
INVALID with BAD_OPCODE; outside RUNNING it is dropped and its reservation released; with no completion
ring a record other than SET_COMPLETION_RING halts the unit with its index not advanced. That a command's
own row does what its returned record does is the model's choice (log entry 7). -/
def Obligations.AdminReadReturnHandsCommandOver : Prop :=
  ∀ (s : State) (tag : Half),
    (CommandReturns s → ∀ body i, commandRow tag body = some i →
      exec (.adminReadReturn (encodeCommand ⟨tag, body⟩)) s = exec i s) ∧
    (CommandReturns s → ∀ opcode : Byte, opcode.toNat = 0 ∨ 9 < opcode.toNat →
      ∃ t, exec (.adminReadReturn (encodeCommand ⟨tag, .unknown opcode⟩)) s = .next t ∧
        Settles (afterCommand s ⟨tag, .admin, .invalid, .badOpcode, .admin .zero⟩) t) ∧
    ∀ (record : List Byte) (address : Word) (reserved : Bool) (counter : Option Nat),
      s.live = true → s.readTxn = some ⟨.admin, address, reserved, counter⟩ →
      (s.part ≠ .running → (s.part = .quiescing → reserved.toNat < s.comp.reservations) →
        ∃ t, exec (.adminReadReturn record) s = .next t ∧
          Settles { s with
            readTxn := none, admin := { s.admin with state := .waiting }
            comp := { s.comp with reservations := s.comp.reservations - reserved.toNat } } t) ∧
      (s.part = .running → s.comp.ringSize = 0 → record.getD 2 0 ≠ 0x01#8 →
        ∃ t, exec (.adminReadReturn record) s = .next t ∧
          Settles { s with
            readTxn := none, icause := s.icause ||| 0b001000#6
            admin := { s.admin with state := .halted, haltReason := .noCompletionRing } } t)

/-- R145, R146, R149, R171, R198, R199: a read that ends in an error or a timeout records its fault and
releases its reservation. One of an axis ring reports FETCH_FAULT, which its axis takes at once; a
START_AXIS, SET_AXIS_RING or CLEAR_FAULT that waited for it is then tested and takes effect. One of the
administrative ring halts the unit with FETCH_FAULT, raising ADMIN_HALT, bit 3 of ICAUSE. That FETCH_FAULT is
the first cause of an axis whose POST_FAULT report is still in flight is log entry 31. -/
def Obligations.ReadFailuresReportAndHalt : Prop :=
  ∀ (s : State) (address : Word) (counter : Option Nat), s.live = true → Steady s →
    (∀ a : AxisId, s.readTxn = some ⟨.axis a, address, true, counter⟩ →
      (s.part = .quiescing → 1 < s.comp.reservations) →
      let failure := fun (i : Instr) (bit : Nat) =>
        let f := reportTaken a .fetchFault { faulted bit s with
          readTxn := none, comp := { s.comp with reservations := s.comp.reservations - 1 } }
        ((∀ c, ¬ WaitsFor s a c) → ∃ t, exec i s = .next t ∧ Settles f t) ∧
        ∀ c, WaitsFor s a c → s.activeAxis a = false →
          ((s.axis a).state = .tripped → (s.axis a).tripRecord ≠ none) →
          ∃ t, exec i s = .next t ∧ Settles (ended (waitedCommand c a f).1 (waitedCommand c a f).2) t
      failure .axisReadError (2 * a.val + 2) ∧
        (counter ≠ none → failure (.portTimeout .read) (2 * a.val + 3))) ∧
    ∀ reserved : Bool, s.readTxn = some ⟨.admin, address, reserved, counter⟩ →
      (s.part = .quiescing → reserved.toNat < s.comp.reservations) →
      let failure := fun (i : Instr) (bit : Nat) => ∃ t, exec i s = .next t ∧
        Settles { faulted bit s with
          readTxn := none, icause := (faulted bit s).icause ||| 0b001000#6
          admin := { s.admin with state := .halted, haltReason := .fetchFault }
          comp := { s.comp with reservations := s.comp.reservations - reserved.toNat } } t
      failure .adminReadError 0 ∧ (counter ≠ none → failure (.portTimeout .read) 1)

/-- R159, R164, R165: an OK response to a completion write removes the head, advances the producer index
with the lap value flipping on its wrap, releases the head's reservation, and coalesces: a status other
than OK raises COMPLETION at once, and an OK record when the K-th is counted. -/
def Obligations.CompletionWriteOkPostsHead : Prop :=
  ∀ (s : State) (address : Word) (data : List Byte) (counter : Option Nat) (c : Completion)
    (rest : List Completion),
    s.live = true → s.part ≠ .failed → s.writeTxn = some ⟨.completion, address, data, counter⟩ →
    s.comp.queue = c :: rest → s.comp.producer < s.comp.ringSize →
    (s.part = .quiescing → 1 < s.comp.reservations) →
    let count := s.comp.coalescingCount + 1
    let signal := c.status ≠ .ok ∨ s.globals.k ≤ count
    ∃ t, exec .completionWriteOk s = .next t ∧
      Settles { s with
        writeTxn := none
        icause := if signal then s.icause ||| 0b000001#6 else s.icause
        comp := { s.comp with
          queue := rest
          producer := if s.comp.producer + 1 = s.comp.ringSize then 0 else s.comp.producer + 1
          lap := if s.comp.producer + 1 = s.comp.ringSize then !s.comp.lap else s.comp.lap
          reservations := s.comp.reservations - 1
          coalescingCount := if signal then 0 else count
          coalescingTimer := if signal then none
            else if count = 1 ∧ s.globals.w ≠ 0 then some s.globals.w
            else s.comp.coalescingTimer } } t

/-- R109, R160, R161, R188, R195: a completion write that ends in an error or a timeout makes the part
FAILED: its fault and FAILED, bit 5 of ICAUSE, are recorded, the pending queue is discarded with its
reservations, the coalescing and bus interval timers stop, and a READ_AXIS whose snapshot has not been
issued ends there, its completion discarded. POST_FAULT is reported for all four axes; each then takes it
at its own instant (R95; that such reports are in flight is log entry 10). -/
def Obligations.CompletionWriteFailureFailsPart : Prop :=
  ∀ (s : State) (address : Word) (data : List Byte) (counter : Option Nat),
    s.live = true → s.writeTxn = some ⟨.completion, address, data, counter⟩ →
    let unissued := ∃ w ∈ s.admin.snapshot, w.issued = false
    let failed := fun (bit left : Nat) (admin : AdminUnit) => { faulted bit s with
      part := .failed, writeTxn := none
      icause := (faulted bit s).icause ||| 0b100000#6
      meas := { s.meas with busTimer := none }
      admin := admin
      comp := { s.comp with
        queue := [], reservations := left, coalescingCount := 0, coalescingTimer := none }
      reports := s.reports ++ [⟨0, .postFault⟩, ⟨1, .postFault⟩, ⟨2, .postFault⟩, ⟨3, .postFault⟩] }
    let failure := fun (i : Instr) (bit : Nat) =>
      (¬ unissued → ∃ t, exec i s = .next t ∧
        Settles (failed bit (s.comp.reservations - s.comp.queue.length) s.admin) t) ∧
      (unissued → ∃ t, exec i s = .next t ∧
        Settles (failed bit (s.comp.reservations - s.comp.queue.length - 1)
          { s.admin with state := .waiting, current := none, snapshot := none }) t)
    failure .completionWriteError 10 ∧ (counter ≠ none → failure (.portTimeout .write) 11)

/-- R161, R188, R198, R199: the response to a snapshot write completes READ_AXIS: OK with the formation
time, or WRITE_FAULT with the fault recorded for an error or a timeout; in FAILED the completion is
discarded and its reservation released. A response that comes after its transaction was resolved is
discarded, and a transaction issued with timeout 0 does not time out. -/
def Obligations.SnapshotAndLateResponses : Prop :=
  ∀ s : State,
    (∀ channel, exec (.lateResponse channel) s = .next s) ∧
    (Steady s → s.readTxn.bind (·.counter) = none →
      ∃ t, exec (.portTimeout .read) s = .next t ∧ Settles s t) ∧
    (Steady s → s.writeTxn.bind (·.counter) = none →
      ∃ t, exec (.portTimeout .write) s = .next t ∧ Settles s t) ∧
    ∀ (address : Word) (data : List Byte) (counter : Option Nat) (w : SnapshotWork) (c : AdminCommand),
      s.live = true → s.comp.ringSize ≠ 0 → s.writeTxn = some ⟨.snapshot, address, data, counter⟩ →
      s.admin.snapshot = some w → s.admin.current = some c →
      (s.part = .quiescing → s.comp.reservations ≠ 0) →
      let ended := fun (u : State) (done : Completion) => { u with
        writeTxn := none
        admin := { s.admin with state := .waiting, current := none, snapshot := none }
        comp := if s.part = .failed then { s.comp with reservations := s.comp.reservations - 1 }
          else { s.comp with queue := s.comp.queue ++ [done] } }
      let fault : Completion := ⟨c.tag, .admin, .writeFault, .none, .admin .zero⟩
      (∃ t, exec (.snapshotWriteResponse true) s = .next t ∧
        Settles (ended s (okCompletion c.tag (.readAxis w.formedAt))) t) ∧
      (∃ t, exec (.snapshotWriteResponse false) s = .next t ∧ Settles (ended (faulted 12 s) fault) t) ∧
      (counter ≠ none → ∃ t, exec (.portTimeout .write) s = .next t ∧
        Settles (ended (faulted 13 s) fault) t)

/-! ### The timers and the timebase -/

/-- R85, R86, R87: the expiry of a gathering group's timer breaks the group and reports RDV_TIMEOUT for
every axis that had arrived; the trip of a member breaks every GATHERING group it belongs to, reporting
RDV_BROKEN for every other axis that had arrived there, and leaves any other group. Such an axis trips when
it takes its report, which is in flight until then (log entry 10). That the expiry of a timer that does not
run does nothing is the model's choice (log entry 8). -/
def Obligations.GroupFailuresTripArrivedAxes : Prop :=
  ∀ (s : State) (g : GroupId), s.live = true → Steady s →
    let y := s.group g
    let broken : Group := { y with state := .broken, arrived := 0, timer := none }
    (y.state ≠ .gathering ∨ y.timer = none →
      ∃ t, exec (.rdvTimerExpiry g) s = .next t ∧ Settles s t) ∧
    (y.state = .gathering → y.timer ≠ none →
      ∃ t, exec (.rdvTimerExpiry g) s = .next t ∧
        Settles { s.setGroup g broken with
          reports := s.reports ++ (axesOf y.arrived).map (⟨·, .rdvTimeout⟩) } t) ∧
    (∀ (a : AxisId) (cause : TripCause), s.activeAxis a = true →
      ∃ t, exec (.axisTrip a cause) s = .next t ∧
        (t.axis a).state = .tripped ∧ (t.axis a).tripRecord = some ⟨cause, s.timebase, 0⟩ ∧
        (∀ b ≠ a, t.axis b = s.axis b) ∧
        (y.state = .gathering → hasAxis y.members a = true → t.group g = broken ∧
          ∀ b ≠ a, hasAxis y.arrived b = true → ⟨b, .rdvBroken⟩ ∈ t.reports) ∧
        (y.state ≠ .gathering ∨ hasAxis y.members a = false → t.group g = y))

/-- R119, R164: the coalescing timer's expiry raises COMPLETION, zeroes the counter and stops the timer;
the bus interval timer's expiry makes a bus request, which is dropped while the bus has one, and loads the
timer again with 10 µs. That the expiry of a stopped timer does nothing is the model's choice (log entry
8). -/
def Obligations.CoalescingAndBusTimerExpiry : Prop :=
  ∀ s : State, s.live = true → Steady s →
    (s.comp.coalescingTimer ≠ none → ∃ t, exec .coalescingTimerExpiry s = .next t ∧
      Settles { s with icause := s.icause ||| 0b000001#6
                       comp := { s.comp with coalescingCount := 0, coalescingTimer := none } } t) ∧
    (s.comp.coalescingTimer = none → ∃ t, exec .coalescingTimerExpiry s = .next t ∧ Settles s t) ∧
    (s.meas.busTimer ≠ none → ∃ t, exec .busIntervalTimerExpiry s = .next t ∧
      Settles { s with meas := { s.meas with
        busTimer := some 10
        elapsed := if s.meas.queue = [] then 0 else s.meas.elapsed
        queue := if s.meas.queue = [] then [⟨.bus, false, .convertingBus⟩]
          else if ConvSource.bus ∈ s.meas.queue.map (·.source) then s.meas.queue
          else s.meas.queue ++ [⟨.bus, false, .waiting⟩] } } t) ∧
    (s.meas.busTimer = none → ∃ t, exec .busIntervalTimerExpiry s = .next t ∧ Settles s t)

/-- R84, R200: an increment adds 1 to the timebase and subtracts 1 from every running timer; a timer that
reaches 0 expires at that instant, as its own row gives, and of two that reach 0 together one expires after
the other, in an order that is free. Under reset the timebase is held. The model's choices are that the
microsecond begins anew at the increment (log entry 4), and that of two expiries of one increment one directly
follows the other, in an order that freeCount counts (log entry 1). -/
def Obligations.TimebaseIncrementRunsTimers : Prop :=
  ∀ s : State, Steady s →
    let u := microsecondLater s
    (s.resetLow = true → ∃ t, exec .timebaseIncrement s = .next t ∧ Settles s t) ∧
    (s.resetLow = false → (∀ x, timeLeft u x ≠ some 0) →
      ∃ t, exec .timebaseIncrement s = .next t ∧ Settles u t) ∧
    (s.resetLow = false → ∀ x, timeLeft u x = some 0 → (∀ y ≠ x, timeLeft u y ≠ some 0) →
      exec .timebaseIncrement s = exec (expiryRow x) u) ∧
    (s.resetLow = false → ∀ x y, x ≠ y → timeLeft u x = some 0 → timeLeft u y = some 0 →
      (∀ z, timeLeft u z = some 0 → z = x ∨ z = y) →
      ∃ m first second, (first = x ∧ second = y ∨ first = y ∧ second = x) ∧
        exec (expiryRow first) { u with freeCount := u.freeCount + 1 } = .next m ∧
        exec .timebaseIncrement s = exec (expiryRow second) m)

/-! ### The measurement unit -/

/-- R117, R122, R123, R130: the end of a leg U conversion begins leg V's. An axis result comes at the end of
leg V's conversion and leaves the queue; a stale one, one of an inactive axis, or one outside RUNNING is
discarded. Else its larger magnitude goes to the peak current and moves the overcurrent run, and OVERCURRENT
is reported when the run reaches N. The model's choices are that an event which is not that of the conversion
at the head does nothing (log entry 8), and that a result in FAILED is discarded also before the axis has
taken its POST_FAULT report (log entry 31). -/
def Obligations.AxisResultMovesOvercurrentRun : Prop :=
  ∀ (s : State) (codeU codeV : BitVec 12), s.live = true → Steady s →
    (∀ a stale rest, s.meas.queue = ⟨.axis a, stale, .convertingU⟩ :: rest →
      ∃ t, exec .legUConversionEnd s = .next t ∧ Settles { s with meas := { s.meas with
        elapsed := 0, queue := ⟨.axis a, stale, .convertingV⟩ :: rest } } t) ∧
    ((∀ q ∈ s.meas.queue.head?, q.progress ≠ .convertingU) →
      ∃ t, exec .legUConversionEnd s = .next t ∧ Settles s t) ∧
    (∀ a stale rest, s.meas.queue = ⟨.axis a, stale, .convertingV⟩ :: rest →
      let x := s.axis a
      let peak := max (currentMagnitude codeU) (currentMagnitude codeV)
      let run := runAfter (x.config.currentLimit < peak) x.overcurrentRun
      let u := (converterMoved s).setAxis a { x with
        overcurrentRun := run
        active := x.active.map fun g =>
          { g with stats := { g.stats with peakCurrent := max g.stats.peakCurrent peak } } }
      (stale = true ∨ s.activeAxis a = false ∨ s.part ≠ .running →
        ∃ t, exec (.axisResult codeU codeV) s = .next t ∧ Settles (converterMoved s) t) ∧
      (stale = false → s.activeAxis a = true → s.part = .running → run < x.config.n →
        ∃ t, exec (.axisResult codeU codeV) s = .next t ∧ Settles u t) ∧
      (stale = false → s.activeAxis a = true → s.part = .running → x.config.n ≤ run →
        ∃ t, exec (.axisResult codeU codeV) s = .next t ∧
          Settles (reportTaken a .overcurrent u) t)) ∧
    ((∀ q ∈ s.meas.queue.head?, q.source = .bus ∨ q.progress ≠ .convertingV) →
      ∃ t, exec (.axisResult codeU codeV) s = .next t ∧ Settles s t)

/-- R106, R117, R125 to R127: a bus result comes at the end of its conversion. It is folded into the bus
extremes of every active segment and moves both run counters; a run that reaches F sets its fault flag, a
code within the limit clears it, and a flag becoming set reports its cause for all four axes, each of which
takes it at its own instant (R95; the reports are in flight, log entry 10). That a result which is not the
head's own does nothing is the model's choice (log entry 8). -/
def Obligations.BusResultMovesFaultFlags : Prop :=
  ∀ (s : State) (code : BitVec 12), s.live = true → Steady s →
    let ovRun := runAfter (s.globals.ovLimit < code.toNat) s.meas.ovRun
    let uvRun := runAfter (code.toNat < s.globals.uvLimit) s.meas.uvRun
    let ovFlag := decide (s.globals.ovLimit < code.toNat) && (s.ovFlag || decide (s.globals.f ≤ ovRun))
    let uvFlag := decide (code.toNat < s.globals.uvLimit) && (s.uvFlag || decide (s.globals.f ≤ uvRun))
    let m := (converterMoved s).meas
    let becomes := fun (now before : Bool) (cause : TripCause) =>
      if now = true ∧ before = false then
        [(⟨0, cause⟩ : Report), ⟨1, cause⟩, ⟨2, cause⟩, ⟨3, cause⟩] else []
    (∀ stale rest, s.meas.queue = ⟨.bus, stale, .convertingBus⟩ :: rest →
      ∃ t, exec (.busResult code) s = .next t ∧ Settles { s with
        ovFlag := ovFlag, uvFlag := uvFlag, meas := { m with ovRun := ovRun, uvRun := uvRun }
        axes := Vector.ofFn fun a => { s.axis a with active := (s.axis a).active.map fun g =>
          { g with stats := { g.stats with busMin := min g.stats.busMin code.toNat
                                           busMax := max g.stats.busMax code.toNat } } }
        reports := s.reports ++ becomes ovFlag s.ovFlag .busOvervolt ++
          becomes uvFlag s.uvFlag .busUndervolt } t) ∧
    ((∀ q ∈ s.meas.queue.head?, q.source ≠ .bus ∨ q.progress ≠ .convertingBus) →
      ∃ t, exec (.busResult code) s = .next t ∧ Settles s t)

/-! ### The peak of a carrier -/

/-- R23, R37, R61, R118, R120, R130: a peak turns the carrier and asks for a sample, which joins the
converter's queue, or is dropped and counted as skipped while the axis has one there. Where the sequencer
has no work (before the last precharge period, waiting unreleased, or at a staging peak with a stop pending,
a record staged or a head arrived) that is all. The model's choices are that a peak delivered to a carrier
that does not rise to one does nothing (log entry 8), and that an active axis outside RUNNING, as one whose
POST_FAULT report is in flight, asks for none (log entry 31). -/
def Obligations.PeakAsksForSample : Prop :=
  ∀ (s : State) (a : AxisId), Steady s →
    let x := s.axis a
    let turned := { x with carrierCount := x.workH, rising := false }
    let working := s.live = true ∧ s.activeAxis a = true ∧ x.rising = true
    (¬ working → ∃ t, exec (.carrierPeak a) s = .next t ∧ Settles s t) ∧
    (working → (x.state = .waitRdv ∧ x.released = false) ∨
        (x.state = .precharge ∧ x.prechargeIndex + 1 < x.config.np) ∨
        (StagingPeak x ∧ (x.pendingStop ≠ none ∨ x.staged ≠ none ∨ x.arrival ≠ none)) →
      ∃ t, exec (.carrierPeak a) s = .next t ∧ Settles (peakSampled a s) t ∧
        (s.part ≠ .running → peakSampled a s = s.setAxis a turned) ∧
        (s.part = .running → ConvSource.axis a ∉ s.meas.queue.map (·.source) → peakSampled a s =
          { s.setAxis a turned with meas := { s.meas with
            elapsed := if s.meas.queue = [] then 0 else s.meas.elapsed
            queue := s.meas.queue ++
              [⟨.axis a, false, if s.meas.queue = [] then .convertingU else .waiting⟩] } }) ∧
        (s.part = .running → ConvSource.axis a ∈ s.meas.queue.map (·.source) → peakSampled a s =
          s.setAxis a { turned with active := x.active.map fun g =>
            { g with stats := { g.stats with skipped := min 255 (g.stats.skipped + 1) } } }))

/-- R2, R6, R7: at a peak before a segment's last period the sequencer writes the requested compares and
the override of its next period to the shadow, with the half-period the shadow holds. -/
def Obligations.PeakRequestsNextPeriod : Prop :=
  ∀ (s : State) (a : AxisId) (g : ActiveSegment), Steady s → s.live = true →
    (s.axis a).state = .run → (s.axis a).rising = true → (s.axis a).active = some g →
    g.index + 1 < g.seg.periods.toNat →
    ∃ t, exec (.carrierPeak a) s = .next t ∧
      Settles ((peakSampled a s).setAxis a
        (((peakSampled a s).axis a).requested g.seg (g.index + 1) (s.axis a).shadowH)) t

/-- R10, R11, R13, R24, R25, R27: at a staging peak an empty FIFO changes nothing, a head that fails a check
trips the axis with BAD_SEGMENT, a valid MARK without RDV completes and the examination goes on with the
rest (as if the MARK had completed before the peak), and any other valid head without RDV is staged. In
WAIT_RDV a released head is staged. That the sample is asked for before a trip of the same peak, so that its
request stands stale in the queue, is the model's choice (log entry 11). -/
def Obligations.StagingPeakExaminesHeads : Prop :=
  ∀ (s : State) (a : AxisId), Steady s → s.live = true → s.part ≠ .quiescing → (s.axis a).rising = true →
    let p := peakSampled a s
    let x := p.axis a
    (Examines (s.axis a) →
      ((s.axis a).fifo = [] → ∃ t, exec (.carrierPeak a) s = .next t ∧ Settles p t) ∧
      ∀ seg rest, (s.axis a).fifo = seg :: rest →
        (failedCheckAt s a seg ≠ none → ∃ t, exec (.carrierPeak a) s = .next t ∧
          Settles (reportTaken a .badSegment p) t) ∧
        (failedCheckAt s a seg = none → seg.rdv = false →
          (seg.kind ≠ 5 → ∃ t, exec (.carrierPeak a) s = .next t ∧
            Settles (p.setAxis a (x.withStaged seg rest)) t) ∧
          (seg.kind = 5 → exec (.carrierPeak a) s = exec (.carrierPeak a)
            (endedOk a seg 0 noStats
              (s.setAxis a { s.axis a with fifo := rest, endPermission := seg.endOk }))))) ∧
    ((s.axis a).state = .waitRdv → (s.axis a).released = true →
      ∀ seg rest, (s.axis a).fifo = seg :: rest → ∃ t, exec (.carrierPeak a) s = .next t ∧
        Settles (p.setAxis a { x.withStaged seg rest with released := false }) t)

/-- R81, R82, R84, R88: the arrival of a valid RDV head at a staging peak. At a BROKEN group the axis trips
with RDV_BROKEN; else it joins the arrived set, starting the timer of an IDLE group; when the set equals
the members the group is IDLE again with its generation counted, each other arrived axis is sent its
release, and the arriving head is staged at once, or completes where it is a MARK and the examination goes
on with the rest. That the sample is asked for before a trip of the same peak is log entry 11. -/
def Obligations.ArrivalGathersOrReleases : Prop :=
  ∀ (s : State) (a : AxisId) (seg : Segment) (rest : List Segment), Steady s →
    s.live = true → s.part ≠ .quiescing → (s.axis a).rising = true → Examines (s.axis a) →
    (s.axis a).fifo = seg :: rest → failedCheckAt s a seg = none → seg.rdv = true →
    let p := peakSampled a s
    let x := p.axis a
    let g := seg.groupId
    let y := s.group g
    let arrived := y.arrived ||| axisBit a
    (y.state = .broken → ∃ t, exec (.carrierPeak a) s = .next t ∧
      Settles (reportTaken a .rdvBroken p) t) ∧
    (y.state ≠ .broken → arrived ≠ y.members → ∃ t, exec (.carrierPeak a) s = .next t ∧
      Settles ((p.setAxis a { x with arrival := some g }).setGroup g (y.joined arrived)) t) ∧
    (y.state ≠ .broken → arrived = y.members → seg.kind ≠ 5 → ∃ t, exec (.carrierPeak a) s = .next t ∧
      Settles (groupReleased g a (x.withStaged seg rest) p) t) ∧
    (y.state ≠ .broken → arrived = y.members → seg.kind = 5 →
      exec (.carrierPeak a) s = exec (.carrierPeak a) (endedOk a seg 0 noStats
        (groupReleased g a { s.axis a with fifo := rest, endPermission := seg.endOk } s)))

/-- R26, R27, R83: a release taken before the axis's next valley stages the head, or completes a MARK and
resumes the examination with the record behind it unless a stop is pending; in WAIT_RDV it sets the
released mark, or completes a MARK and enters STARVED with grace 0. That the row does nothing where no
release was sent is the model's choice (log entry 8). -/
def Obligations.ReleaseEndsWait : Prop :=
  ∀ (s : State) (a : AxisId), Steady s → s.live = true → s.part ≠ .quiescing →
    ((s.axis a).releaseSent = false →
      ∃ t, exec (.releaseTaken a) s = .next t ∧ Settles s t) ∧
    ∀ g seg rest, (s.axis a).releaseSent = true → (s.axis a).arrival = some g →
      (s.axis a).fifo = seg :: rest →
      let x := { s.axis a with releaseSent := false, arrival := none }
      let marked := endedOk a seg 0 noStats
        (s.setAxis a { x with fifo := rest, endPermission := seg.endOk })
      (x.state = .waitRdv → seg.kind ≠ 5 → ∃ t, exec (.releaseTaken a) s = .next t ∧
        Settles (s.setAxis a { x with released := true }) t) ∧
      (x.state = .waitRdv → seg.kind = 5 → ∃ t, exec (.releaseTaken a) s = .next t ∧
        Settles (endedOk a seg 0 noStats (s.setAxis a { x with
          state := .starved, grace := 0, fifo := rest, endPermission := seg.endOk })) t) ∧
      (x.state = .run ∨ x.state = .precharge ∨ x.state = .starved →
        (seg.kind ≠ 5 → ∃ t, exec (.releaseTaken a) s = .next t ∧
          Settles (s.setAxis a (x.withStaged seg rest)) t) ∧
        (seg.kind = 5 → x.pendingStop ≠ none ∨ rest = [] →
          ∃ t, exec (.releaseTaken a) s = .next t ∧ Settles marked t) ∧
        (seg.kind = 5 → x.pendingStop = none → ∀ next rest', rest = next :: rest' →
          (failedCheckAt s a next ≠ none → ∃ t, exec (.releaseTaken a) s = .next t ∧
            Settles (reportTaken a .badSegment marked) t) ∧
          (failedCheckAt s a next = none → next.rdv = false →
            exec (.releaseTaken a) s = exec (.releaseTaken a) (endedOk a seg 0 noStats
              (s.setAxis a { s.axis a with fifo := rest, endPermission := seg.endOk }))) ∧
          (failedCheckAt s a next = none → next.rdv = true →
            let y := s.group next.groupId
            let arrived := y.arrived ||| axisBit a
            (y.state = .broken → ∃ t, exec (.releaseTaken a) s = .next t ∧
              Settles (reportTaken a .rdvBroken marked) t) ∧
            (y.state ≠ .broken → arrived ≠ y.members → ∃ t, exec (.releaseTaken a) s = .next t ∧
              Settles ((marked.setAxis a { marked.axis a with arrival := some next.groupId }).setGroup
                next.groupId (y.joined arrived)) t) ∧
            (y.state ≠ .broken → arrived = y.members →
              exec (.releaseTaken a) s = exec (.releaseTaken a) (endedOk a seg 0 noStats
                (groupReleased next.groupId a
                  { s.axis a with fifo := rest, endPermission := seg.endOk } s))))))

/-! ### The valley of a carrier -/

/-- R22, R28, R49: a valley that ends neither a segment nor precharge accounts, moves to the next period
and loads the working compares. That a valley delivered to a carrier that does not fall to one does
nothing is the model's choice (log entry 8). -/
def Obligations.ValleyWithinSegmentAdvances : Prop :=
  ∀ (s : State) (a : AxisId), Steady s →
    let x := s.axis a
    let working := s.live = true ∧ s.activeAxis a = true ∧ x.rising = false
    (¬ working → ∃ t, exec (.carrierValley a) s = .next t ∧ Settles s t) ∧
    (working → ∀ g, x.state = .run → x.active = some g → g.index + 1 < g.seg.periods.toNat →
      ∃ t, exec (.carrierValley a) s = .next t ∧
        Settles (s.setAxis a
          { valleyOpened x with active := some { g with index := g.index + 1 } }.load) t) ∧
    (working → x.state = .precharge → x.prechargeIndex + 1 < x.config.np → x.pendingStop = none →
      ∃ t, exec (.carrierValley a) s = .next t ∧
        Settles (s.setAxis a
          { valleyOpened x with prechargeIndex := x.prechargeIndex + 1 }.load) t)

/-- R13, R14, R17, R29 (case 2): at a boundary valley with a record staged and no stop pending the segment
that ends completes OK and the staged record becomes active in RUN with period index 0, statistics begun
anew and its END_OK the end permission; the load of its first period follows. -/
def Obligations.BoundaryValleyStartsStagedRecord : Prop :=
  ∀ (s : State) (a : AxisId) (seg : Segment), Steady s → s.live = true → s.part ≠ .quiescing →
    (s.axis a).rising = false → BoundaryValley (s.axis a) →
    (s.axis a).pendingStop = none → (s.axis a).staged = some seg →
    ∃ t, exec (.carrierValley a) s = .next t ∧
      Settles ((closedAt a s).setAxis a
        { (closedAt a s).axis a with
          state := .run, active := some ⟨seg, 0, ⟨0, 0, 0, 4095, 0⟩⟩, staged := none
          endPermission := seg.endOk, grace := 0, released := false }.load) t

/-- R29 (cases 3 to 5), R30, R31: at a boundary valley with nothing staged and no stop pending, an arrived
head takes the axis to WAIT_RDV; else the end permission ends the run, its FIFO completing FLUSHED; else
a starved period is counted, and at G or above the axis trips with UNDERRUN. -/
def Obligations.BoundaryValleyWithNothingStaged : Prop :=
  ∀ (s : State) (a : AxisId), Steady s → s.live = true → s.part ≠ .quiescing →
    (s.axis a).rising = false → BoundaryValley (s.axis a) →
    (s.axis a).pendingStop = none → (s.axis a).staged = none →
    let c := closedAt a s
    let x := c.axis a
    let waits := x.arrival ≠ none ∨ x.state = .waitRdv
    let grace := if x.state = .starved then x.grace + 1 else 0
    (waits → ∃ t, exec (.carrierValley a) s = .next t ∧
      Settles (c.setAxis a { x with state := .waitRdv, grace := 0 }.load) t) ∧
    (¬ waits → x.endPermission = true → ∃ t, exec (.carrierValley a) s = .next t ∧
      Settles (handedOver (notPlayed a .flushed .none x.fifo) { c.setAxis a x.idled with
        meas := { c.meas with queue := staleFor a c.meas.queue } }) t) ∧
    (¬ waits → x.endPermission = false → grace < x.config.g →
      ∃ t, exec (.carrierValley a) s = .next t ∧
        Settles (c.setAxis a { x with state := .starved, grace := grace }.load) t) ∧
    (¬ waits → x.endPermission = false → x.config.g ≤ grace →
      ∃ t, exec (.carrierValley a) s = .next t ∧
        Settles (reportTaken a .underrun (c.setAxis a { x with state := .starved, grace := grace })) t)

/-- R38, R41, R90: a pending stop takes effect at the closing valley of the active segment, or at the next
valley in any other active state. After the closing completion the axis departs its group and is IDLE,
its records complete FLUSHED, its ring is skipped, and the stop completes OK with the skip count. What its
group has already sent to the axis is taken before that valley: a release on its way (log entry 6), or the
trip of a report in flight (log entry 30). That the monitors are cleared also where a stop takes effect at
the last precharge valley is the model's choice (log entry 5). -/
def Obligations.PendingStopTakesEffectAtValley : Prop :=
  ∀ (s : State) (a : AxisId) (tag : Half), Steady s → s.live = true → s.part ≠ .quiescing →
    (s.axis a).rising = false → BoundaryValley (s.axis a) ∨ (s.axis a).state = .precharge →
    (s.axis a).pendingStop = some tag →
    (groupReports s a = [] → (s.axis a).releaseSent = false →
      let c := closedAt a s
      let x := c.axis a
      let skip := if x.ringSize = 0 then 0 else (x.producer + x.ringSize - x.consumer) % x.ringSize
      let done := notPlayed a .flushed .none x.staged.toList ++ notPlayed a .flushed .none x.fifo ++
        [okCompletion tag (.stopAxis skip)]
      ∃ t, exec (.carrierValley a) s = .next t ∧
        Settles (handedOver done
          { (departed a c).setAxis a { x.idled with consumer := x.producer } with
            meas := { c.meas with queue := staleFor a c.meas.queue } }) t) ∧
    (groupReports s a = [] → ReleaseOnItsWay (s.axis a) →
      exec (.carrierValley a) s = exec (.carrierValley a) (withRelease a s)) ∧
    (∀ cause, groupReports s a = [⟨a, cause⟩] → ∃ t, exec (.carrierValley a) s = .next t ∧
      Settles (reportTaken a cause { s with reports := s.reports.erase ⟨a, cause⟩ }) t)

/-! ### Trips -/

/-- R33, R42, R86, R95 to R100, R115: a report taken for an active axis is one event: the records held
complete TRIPPED in their order (a head that fails a check INVALID, for BAD_SEGMENT), then the pending stop;
the axis is TRIPPED with a new trip record, its gathering groups break, and TRIP, bit 1 of ICAUSE, is
raised (all said by `trippedAt`). A TRIPPED axis takes a later cause alone; an IDLE axis and a part in
reset nothing. The report leaves those in flight. The model's choices are that a BAD_SEGMENT report finding
a valid head completes it TRIPPED (log entry 12), that a release on its way is gone with the trip (log entry
23), that the reports a break makes are in flight (log entry 10), and that any cause can be a later one (log
entry 32). -/
def Obligations.TripIsOneEvent : Prop :=
  ∀ (s : State) (a : AxisId) (cause : TripCause), Steady s →
    let x := s.axis a
    let taken := { s with reports := s.reports.erase ⟨a, cause⟩ }
    (s.live = true → s.activeAxis a = true → ∃ t, exec (.axisTrip a cause) s = .next t ∧
      Settles (trippedAt a cause taken) t) ∧
    (s.live = true → x.state = .tripped → ∃ t, exec (.axisTrip a cause) s = .next t ∧
      Settles (taken.setAxis a { x with tripRecord := x.tripRecord.map fun r =>
        { r with later := r.later ||| 1#16 <<< (causeCode cause - 1) } }) t) ∧
    (s.live = true → x.state = .idle → ∃ t, exec (.axisTrip a cause) s = .next t ∧ Settles taken t) ∧
    (s.live = false → ∃ t, exec (.axisTrip a cause) s = .next t ∧ Settles s t)

/-! ### The legs -/

/-- R52, R53: where the carrier crosses a leg's working compare the demand goes low on the rising slope
and high on the falling one; a demand that has lasted the dead time turns its switch on. That the two
rows bring the count and the dead time to that instant is the model's choice (log entry 8). -/
def Obligations.CrossingsAndDeadTimeMoveLegs : Prop :=
  ∀ (s : State) (a : AxisId) (l : Leg), Steady s →
    let x := s.axis a
    let c := x.work.get l
    let crosses := s.live = true ∧ s.activeAxis a = true ∧
      (if x.rising = true then x.carrierCount < c ∧ c < x.workH else 0 < c ∧ c < x.carrierCount)
    let g := s.gate a l
    let waited : Gate := { g with held := if g.demand = .neither then g.held else max g.held x.config.d }
    (¬ crosses → ∃ t, exec (.carrierCrossing a l) s = .next t ∧ Settles s t) ∧
    (crosses → ∃ t, exec (.carrierCrossing a l) s = .next t ∧
      Settles (s.setAxis a { x with carrierCount := c }) t ∧
      (s.emergency = false → x.workOverride = false →
        (t.gate a l).demand = if x.rising = true then .low else .high)) ∧
    (∃ t, exec (.deadTimeElapsed a l) s = .next t ∧
      Settles { s with gates := s.gates.set a (s.gates[a].set waited l) } t ∧
      ∀ side : Side, legDemand s a l = side.demand → g.demand = side.demand → switchOn t a l side = true)

/-! ### The read arbiter -/

/-- R133, R138, R139, R141 to R143, R158, R188, R199: at a free read channel the arbiter chooses an eligible
ring, none of a lower class and none earlier in the round robin of its class being eligible, and none only
where none is; a read of the slot at the ring's consumer index is issued then, and an axis so served becomes
its position. At a free write channel, but in FAILED and RESETTING, a snapshot that waits is written first,
else the head of the pending queue to the slot at the producer index, with the lap value in force. Each
issue loads its timeout. That a slot address wraps past FFFFFFFFh is log entry 28. -/
def Obligations.ArbitersServeClaimants : Prop :=
  ∀ s : State,
    (s.readTxn = none →
      (arbiterChoice s = none ↔ ∀ ring, ¬ Eligible s ring) ∧
      ∀ ring, arbiterChoice s = some ring →
        Eligible s ring ∧
        (∀ other, Eligible s other → ringClass s ring < ringClass s other ∨
          (ringClass s ring = ringClass s other ∧ turn s ring ≤ turn s other)) ∧
        (Steady s → ∃ t, exec .quiesceEnd s = .next t ∧ Settles s t ∧
          ∃ r, t.readTxn = some r ∧ r.ring = ring ∧ r.reserved = decide (s.comp.ringSize ≠ 0) ∧
            r.counter = (if s.globals.readTimeout = 0 then none else some s.globals.readTimeout) ∧
            match ring with
            | .axis a => t.arbiter = a ∧
                r.address = (s.axis a).ringBase + BitVec.ofNat 32 (32 * (s.axis a).consumer)
            | .admin => t.arbiter = s.arbiter ∧ t.admin.state = .fetching ∧
                r.address = s.admin.ringBase + BitVec.ofNat 32 (32 * s.admin.consumer))) ∧
    (Steady s → s.writeTxn = none → s.part ≠ .failed → s.part ≠ .resetting →
      let counter := if s.globals.writeTimeout = 0 then none else some s.globals.writeTimeout
      (∀ w, s.admin.snapshot = some w → w.issued = false →
        ∃ t, exec .quiesceEnd s = .next t ∧ Settles s t ∧
          t.writeTxn = some ⟨.snapshot, w.address, w.data, counter⟩ ∧
          t.admin.snapshot = some { w with issued := true } ∧ t.comp.queue = s.comp.queue) ∧
      ((∀ w ∈ s.admin.snapshot, w.issued = true) → ∀ c rest, s.comp.queue = c :: rest →
        ∃ t, exec .quiesceEnd s = .next t ∧ Settles s t ∧ t.comp.queue = s.comp.queue ∧
          t.writeTxn = some ⟨.completion, s.comp.ringBase + BitVec.ofNat 32 (16 * s.comp.producer),
            completionBytes s.comp.lap c, counter⟩) ∧
      ((∀ w ∈ s.admin.snapshot, w.issued = true) → s.comp.queue = [] →
        ∃ t, exec .quiesceEnd s = .next t ∧ Settles s t ∧ t.writeTxn = none))

/-! ### The records in host memory -/

/-- R202: a segment record and an administrative command record of 32 bytes are read field by field as
they were written, with every field at every value it can hold, and the reserved bytes and bits of a record
are ignored. -/
def Obligations.RecordsReadAsWritten : Prop :=
  (∀ seg : Segment, (encodeSegment seg).length = 32 ∧ decodeSegment (encodeSegment seg) = seg) ∧
  (∀ c : AdminCommand, c.body.opcodeOk = true →
    (encodeCommand c).length = 32 ∧ decodeCommand (encodeCommand c) = c) ∧
  (∀ r r' : List Byte, (∀ i < 22, i ≠ 3 → i ≠ 4 → i ≠ 5 → byteAt r i = byteAt r' i) →
    (byteAt r 3).extractLsb' 0 3 = (byteAt r' 3).extractLsb' 0 3 →
    (byteAt r 4).extractLsb' 0 3 = (byteAt r' 4).extractLsb' 0 3 → decodeSegment r = decodeSegment r') ∧
  ∀ r r' : List Byte, (∀ i ∈ [0, 1, 2] ++ argumentOffsets (byteAt r 2), byteAt r i = byteAt r' i) →
    decodeCommand r = decodeCommand r'

/-- R45, R187, R203: the 16 bytes of a completion and the 64 bytes of a snapshot, every byte of them, by
Tables 12-4 to 12-7, where the numbers they carry fit their fields. -/
def Obligations.RecordsWrittenByTables : Prop :=
  (∀ (lap : Bool) (c : Completion),
    let r := completionBytes lap c
    let zero := fun (first last : Nat) => ∀ i, first ≤ i → i ≤ last → byteAt r i = 0
    r.length = 16 ∧ halfAt r 0 = c.tag ∧
    (byteAt r 2).toNat = sourceCode c.source + (if lap then 128 else 0) ∧
    (byteAt r 3).toNat = statusCode c.status ∧ (byteAt r 4).toNat = detailCode c.detail ∧ zero 5 5 ∧
    (∀ n st, c.body = .segment n st → n < 65536 → st.peakCurrent < 65536 → st.skipped < 256 →
      st.stolen < 256 → st.busMin < 65536 → st.busMax < 65536 →
      (halfAt r 6).toNat = n ∧ (halfAt r 8).toNat = st.peakCurrent ∧
      (byteAt r 10).toNat = st.skipped ∧ (byteAt r 11).toNat = st.stolen ∧
      (halfAt r 12).toNat = st.busMin ∧ (halfAt r 14).toNat = st.busMax) ∧
    (∀ result, c.body = .admin result → zero 6 7 ∧ match result with
      | .zero => zero 8 15
      | .startAxis consumer occupancy => consumer < 65536 → occupancy < 65536 →
          (halfAt r 8).toNat = consumer ∧ (halfAt r 10).toNat = occupancy ∧ zero 12 15
      | .stopAxis skip => skip < 65536 → (halfAt r 8).toNat = skip ∧ zero 10 15
      | .clearFault timestamp later skip => skip < 65536 →
          wordAt r 8 = timestamp ∧ halfAt r 12 = later ∧ (halfAt r 14).toNat = skip
      | .defineGroup previous generation =>
          (byteAt r 8).toNat = groupStateCode previous ∧ zero 9 9 ∧ halfAt r 10 = generation ∧ zero 12 15
      | .readAxis timebase => wordAt r 8 = timebase ∧ zero 12 15)) ∧
  ∀ (s : State) (a : AxisId),
    let x := s.axis a
    let r := snapshotBytes s a
    let zero := fun (first last : Nat) => ∀ i, first ≤ i → i ≤ last → byteAt r i = 0
    let monitor := fun (i : Nat) (m : Monitor) => m.backlog < 4 →
      (byteAt r i).toNat = m.backlog + (if m.urgent = true then 128 else 0)
    r.length = 64 ∧ (byteAt r 0).toNat = x.state.code ∧
    (x.fifo.length < 256 → (byteAt r 1).toNat = x.fifo.length) ∧
    (x.consumer < 65536 → (halfAt r 2).toNat = x.consumer) ∧
    (let position := match x.state, x.active with
      | .run, some g => g.index
      | .precharge, _ => x.prechargeIndex
      | .starved, _ => x.grace
      | _, _ => 0
     position < 65536 → (halfAt r 4).toNat = position) ∧
    (byteAt r 7).toNat = a.val ∧
    (∀ t, x.tripRecord = some t → (byteAt r 6).toNat = causeCode t.first ∧
      wordAt r 8 = t.timestamp ∧ halfAt r 12 = t.later) ∧
    (x.tripRecord = none → zero 6 6 ∧ zero 8 13) ∧
    monitor 14 x.monitors.u ∧ monitor 15 x.monitors.v ∧ monitor 16 x.monitors.w ∧ zero 17 17 ∧
    (x.stolenTotal < 65536 → (halfAt r 18).toNat = x.stolenTotal) ∧ zero 20 23 ∧
    (∀ g : GroupId, halfAt r (24 + 2 * g.val) =
      if hasAxis (s.group g).members a = true then (s.group g).generation else 0) ∧
    zero 40 63

/-! ### The modulator and the top-up monitors -/

/-- R16, R49, R50, R63, R72: a valley load derives each leg's working compare by snap, clamp and snap in that
order, counts the clamps that lowered one into the active segment and into the axis's total, leaves all else
of the axis, and under a legal configuration leaves an URGENT leg a low on-time of at least T_boot. -/
def Obligations.ValleyLoadDerivesCompares : Prop :=
  ∀ (x : Axis) (l : Leg), LegalPeriod x.config x.shadowH → (x.shadow.get l) ≤ x.shadowH →
    let c : Int := x.shadow.get l
    let h : Int := x.shadowH
    let d : Int := x.config.d
    let m : Int := x.config.m
    let urgent := (x.monitors.get l).urgent = true
    let limit := h - (x.config.tBoot + d + 1) / 2
    let c1 := if 0 < 2 * c - d ∧ 2 * c - d < m then 0
      else if 0 < 2 * (h - c) - d ∧ 2 * (h - c) - d < m then h else c
    let c2 := if urgent ∧ limit < c1 then limit else c1
    let c3 := if 0 < 2 * c2 - d ∧ 2 * c2 - d < m then 0 else c2
    let lowered := x.derived.u.stolen.toNat + x.derived.v.stolen.toNat + x.derived.w.stolen.toNat
    x.load = { x with
      workH := x.shadowH, workOverride := x.shadowOverride, work := x.load.work
      active := x.active.map fun g =>
        { g with stats := { g.stats with stolen := min 255 (g.stats.stolen + lowered) } }
      stolenTotal := min 65535 (x.stolenTotal + lowered) } ∧
    (x.load.work.get l : Int) = c3 ∧
    ((x.derived.get l).stolen = true ↔ urgent ∧ limit < c1) ∧
    (urgent → x.config.tBoot ≠ 0 → x.config.m ≤ x.config.tBoot →
      x.config.tBoot ≤ lowOnTime x.shadowH x.config.d false (x.load.work.get l))

/-- R68, R69, R70, R74, R75: at a valley each top-up monitor counts a high-side period, wraps at R into its
backlog of at most 3, pays one top-up in a qualifying period, and sets URGENT at 3 and clears it at 0.
With T_boot 0, and at the end of precharge, it holds nothing; that this holds at the last precharge valley
also where a stop takes effect there is the model's choice (log entry 5). -/
def Obligations.MonitorAccountsForPeriod : Prop :=
  ∀ (x : Axis) (l : Leg),
    let m := x.monitors.get l
    let m' := (valleyOpened x).monitors.get l
    let c := x.work.get l
    let high := x.workOverride = false ∧ 0 < c ∧ (x.workH ≤ c ∧ 0 < x.workH ∨ c < x.workH ∧ x.config.d < 2 * c)
    let wraps := high ∧ m.requests + 1 = x.config.r
    let backlog := if wraps then min 3 (m.backlog + 1) else m.backlog
    let qualifies := x.workOverride = false ∧
      (if c = 0 then x.config.tBoot ≤ 2 * x.workH
       else c < x.workH ∧ x.config.tBoot + x.config.d ≤ 2 * (x.workH - c))
    ((x.state = .precharge ∧ x.config.np ≤ x.prechargeIndex + 1) ∨ x.config.tBoot = 0 →
      m' = ⟨0, 0, false⟩) ∧
    (¬ (x.state = .precharge ∧ x.config.np ≤ x.prechargeIndex + 1) → x.config.tBoot ≠ 0 →
      m.requests < x.config.r → m.backlog ≤ 3 →
      m'.requests = (if wraps then 0 else if high then m.requests + 1 else m.requests) ∧
      m'.backlog = (if qualifies then backlog - 1 else backlog) ∧
      (m'.urgent = true ↔ m'.backlog = 3 ∨ (m'.backlog ≠ 0 ∧ m.urgent = true)))

/-! ### The laws every step keeps -/

/-- R53: no step turns on both switches of a leg, a demand that changes begins its dead time anew, and
where D is positive no switch is on at the step after its partner was. -/
def Obligations.SwitchesNeverShootThrough : Prop :=
  ∀ s t : State, step s = .next t → ∀ (a : AxisId) (l : Leg),
    ¬ (switchOn t a l .high = true ∧ switchOn t a l .low = true) ∧
    ((t.gate a l).demand ≠ (s.gate a l).demand → (t.gate a l).held = 0) ∧
    (0 < (t.axis a).config.d →
      (switchOn s a l .high = true → switchOn t a l .low = false) ∧
      (switchOn s a l .low = true → switchOn t a l .high = false))

/-- R66, R70, R72: every step keeps each leg's backlog within 0 to 3, URGENT only while it is nonzero, the
request counter below R, and the stolen top-up total at most 65535. -/
def Obligations.StepsKeepMonitorsInRange : Prop := Kept MonitorsInRange

/-- R34, R99, R100, R111: every step keeps a trip record exactly with TRIPPED, and a TRIPPED axis keeps its
first cause and timestamp, adding later causes alone, until it is cleared to IDLE. -/
def Obligations.StepsKeepTripRecords : Prop :=
  Kept TripRecordsMatch ∧
  ∀ s t : State, TripRecordsMatch s → step s = .next t → ∀ (a : AxisId) (r : TripRecord),
    (s.axis a).tripRecord = some r →
    ((t.axis a).state = .idle ∧ (t.axis a).tripRecord = none) ∨
    ((t.axis a).state = .tripped ∧ ∃ r', (t.axis a).tripRecord = some r' ∧ r'.first = r.first ∧
      r'.timestamp = r.timestamp ∧ r.later ||| r'.later = r'.later)

/-- R80: every step keeps each arrived set within its members, empty outside GATHERING, and each axis in
the arrived set of no group but that of its mark. The clauses on a release on its way concern a field of the
model's own (log entries 6 and 14). -/
def Obligations.StepsKeepGroupsConsistent : Prop := Kept GroupsConsistent

/-- R116, R134, R137, R154: every step keeps at most 4 records in a FIFO with the read in flight, every ring
index within its ring, and one request of each source at the converter with the head alone converting. -/
def Obligations.StepsKeepQueuesSound : Prop := Kept QueuesSound

/-- R140, R155, R157, R159: every step keeps one reservation for every completion waiting and every piece
of admitted work, at most 16 of them, and posted completions and reservations together below the
completion ring's size, so that no completion is lost for want of a slot. -/
def Obligations.StepsKeepReservationLaw : Prop := Kept ReservationLaw

/-- R52, R141, R158, R194, R196: from a state in which nothing is due every step leads to one: legs follow
their demands, no read or write waits at a free channel, and no finished quiesce or reset lingers. That
these come about at the end of the event that makes them due is the model's choice (log entry 20); reports
of trip causes may be in flight (log entry 10). -/
def Obligations.StepsLeaveNothingDue : Prop := Kept NothingDue

/-- R5, R62: every step keeps every half-period an axis works with or will be given legal. -/
def Obligations.StepsKeepPeriodsLegal : Prop := Kept PeriodsLegal
end

