-- ==== Sys2Proof/Laws/State.lean ====
section
/-! SUPPORT. Reading a state back after an update: one lemma per field per update of State, and the laws of
reading one axis, group or leg after writing one. -/

namespace Sys2Proof.Machine

/-! ### Legs -/

@[simp] theorem legs_get_set_self {α : Type} (x : Legs α) (v : α) (k : Leg) : (x.set v k).get k = v := by
  cases k <;> rfl

theorem legs_get_set_ne {α : Type} (x : Legs α) (v : α) {k m : Leg} (h : m ≠ k) :
    (x.set v k).get m = x.get m := by
  cases k <;> cases m <;> first | rfl | exact absurd rfl h

@[simp] theorem legs_get_of {α : Type} (f : Leg → α) (k : Leg) : (Legs.of f).get k = f k := by
  cases k <;> rfl

@[simp] theorem legs_get_all {α : Type} (v : α) (k : Leg) : (Legs.all v).get k = v := by
  cases k <;> rfl

/-! ### Axes -/

@[simp] theorem axis_setAxis_self (s : State) (a : AxisId) (x : Axis) : (s.setAxis a x).axis a = x := by
  simp [State.axis, State.setAxis]

theorem axis_setAxis_ne (s : State) {a b : AxisId} (x : Axis) (h : b ≠ a) :
    (s.setAxis a x).axis b = s.axis b := by
  simp only [State.axis, State.setAxis]
  exact Vector.getElem_set_ne _ _ (fun e => h (Fin.ext e.symm))

theorem axis_setAxis (s : State) (a b : AxisId) (x : Axis) :
    (s.setAxis a x).axis b = if b = a then x else s.axis b := by
  split
  · next h => rw [h, axis_setAxis_self]
  · next h => exact axis_setAxis_ne s x h

@[simp] theorem axis_modAxis_self (s : State) (a : AxisId) (f : Axis → Axis) :
    (s.modAxis a f).axis a = f (s.axis a) := axis_setAxis_self s a _

theorem axis_modAxis_ne (s : State) {a b : AxisId} (f : Axis → Axis) (h : b ≠ a) :
    (s.modAxis a f).axis b = s.axis b := axis_setAxis_ne s _ h

@[simp] theorem setAxis_setAxis (s : State) (a : AxisId) (x y : Axis) :
    (s.setAxis a x).setAxis a y = s.setAxis a y := by
  simp [State.setAxis]

@[simp] theorem setAxis_axis (s : State) (a : AxisId) : s.setAxis a (s.axis a) = s := by
  simp [State.setAxis, State.axis]

/-- Two states with the same axes read the same axis. -/
theorem axis_congr {s t : State} (h : t.axes = s.axes) (a : AxisId) : t.axis a = s.axis a := by
  simp only [State.axis, h]

/-- Two states whose axes read alike have the same axes. -/
theorem axes_ext {s t : State} (h : ∀ a, t.axis a = s.axis a) : t.axes = s.axes := by
  apply Vector.ext
  intro i hi
  exact h ⟨i, hi⟩

/-! ### Groups -/

@[simp] theorem group_setGroup_self (s : State) (g : GroupId) (x : Group) :
    (s.setGroup g x).group g = x := by
  simp [State.group, State.setGroup]

theorem group_setGroup_ne (s : State) {g k : GroupId} (x : Group) (h : k ≠ g) :
    (s.setGroup g x).group k = s.group k := by
  simp only [State.group, State.setGroup]
  exact Vector.getElem_set_ne _ _ (fun e => h (Fin.ext e.symm))

/-- Two states with the same groups read the same group. -/
theorem group_congr {s t : State} (h : t.groups = s.groups) (g : GroupId) : t.group g = s.group g := by
  simp only [State.group, h]

/-! ### Legs of the outputs -/

theorem gate_refreshGates (s : State) (a : AxisId) (k : Leg) :
    (refreshGates s).gate a k = (s.gate a k).follow (legDemand s a k) := by
  simp [State.gate, refreshGates]

theorem gate_ageGates (s : State) (a : AxisId) (k : Leg) : (ageGates s).gate a k = (s.gate a k).age := by
  simp [State.gate, ageGates]

/-- Two states with the same dead-time state read the same leg. -/
theorem gate_congr {s t : State} (h : t.gates = s.gates) (a : AxisId) (k : Leg) :
    t.gate a k = s.gate a k := by
  simp only [State.gate, h]


/-! ### The fields `setAxis` leaves -/

@[simp] theorem setAxis_part (s : State) (a : AxisId) (x : Axis) : (s.setAxis a x).part = s.part := rfl
@[simp] theorem setAxis_resetLow (s : State) (a : AxisId) (x : Axis) : (s.setAxis a x).resetLow = s.resetLow := rfl
@[simp] theorem setAxis_icause (s : State) (a : AxisId) (x : Axis) : (s.setAxis a x).icause = s.icause := rfl
@[simp] theorem setAxis_imask (s : State) (a : AxisId) (x : Axis) : (s.setAxis a x).imask = s.imask := rfl
@[simp] theorem setAxis_fsum (s : State) (a : AxisId) (x : Axis) : (s.setAxis a x).fsum = s.fsum := rfl
@[simp] theorem setAxis_timebase (s : State) (a : AxisId) (x : Axis) : (s.setAxis a x).timebase = s.timebase := rfl
@[simp] theorem setAxis_subTick (s : State) (a : AxisId) (x : Axis) : (s.setAxis a x).subTick = s.subTick := rfl
@[simp] theorem setAxis_busRead (s : State) (a : AxisId) (x : Axis) : (s.setAxis a x).busRead = s.busRead := rfl
@[simp] theorem setAxis_gates (s : State) (a : AxisId) (x : Axis) : (s.setAxis a x).gates = s.gates := rfl
@[simp] theorem setAxis_groups (s : State) (a : AxisId) (x : Axis) : (s.setAxis a x).groups = s.groups := rfl
@[simp] theorem setAxis_emergency (s : State) (a : AxisId) (x : Axis) : (s.setAxis a x).emergency = s.emergency := rfl
@[simp] theorem setAxis_ovFlag (s : State) (a : AxisId) (x : Axis) : (s.setAxis a x).ovFlag = s.ovFlag := rfl
@[simp] theorem setAxis_uvFlag (s : State) (a : AxisId) (x : Axis) : (s.setAxis a x).uvFlag = s.uvFlag := rfl
@[simp] theorem setAxis_meas (s : State) (a : AxisId) (x : Axis) : (s.setAxis a x).meas = s.meas := rfl
@[simp] theorem setAxis_globals (s : State) (a : AxisId) (x : Axis) : (s.setAxis a x).globals = s.globals := rfl
@[simp] theorem setAxis_comp (s : State) (a : AxisId) (x : Axis) : (s.setAxis a x).comp = s.comp := rfl
@[simp] theorem setAxis_admin (s : State) (a : AxisId) (x : Axis) : (s.setAxis a x).admin = s.admin := rfl
@[simp] theorem setAxis_readTxn (s : State) (a : AxisId) (x : Axis) : (s.setAxis a x).readTxn = s.readTxn := rfl
@[simp] theorem setAxis_writeTxn (s : State) (a : AxisId) (x : Axis) : (s.setAxis a x).writeTxn = s.writeTxn := rfl
@[simp] theorem setAxis_arbiter (s : State) (a : AxisId) (x : Axis) : (s.setAxis a x).arbiter = s.arbiter := rfl
@[simp] theorem setAxis_reports (s : State) (a : AxisId) (x : Axis) : (s.setAxis a x).reports = s.reports := rfl
@[simp] theorem setAxis_freeCount (s : State) (a : AxisId) (x : Axis) : (s.setAxis a x).freeCount = s.freeCount := rfl
@[simp] theorem setAxis_pending (s : State) (a : AxisId) (x : Axis) : (s.setAxis a x).pending = s.pending := rfl

/-! ### The fields `modAxis` leaves -/

@[simp] theorem modAxis_part (s : State) (a : AxisId) (f : Axis → Axis) : (s.modAxis a f).part = s.part := rfl
@[simp] theorem modAxis_resetLow (s : State) (a : AxisId) (f : Axis → Axis) : (s.modAxis a f).resetLow = s.resetLow := rfl
@[simp] theorem modAxis_icause (s : State) (a : AxisId) (f : Axis → Axis) : (s.modAxis a f).icause = s.icause := rfl
@[simp] theorem modAxis_imask (s : State) (a : AxisId) (f : Axis → Axis) : (s.modAxis a f).imask = s.imask := rfl
@[simp] theorem modAxis_fsum (s : State) (a : AxisId) (f : Axis → Axis) : (s.modAxis a f).fsum = s.fsum := rfl
@[simp] theorem modAxis_timebase (s : State) (a : AxisId) (f : Axis → Axis) : (s.modAxis a f).timebase = s.timebase := rfl
@[simp] theorem modAxis_subTick (s : State) (a : AxisId) (f : Axis → Axis) : (s.modAxis a f).subTick = s.subTick := rfl
@[simp] theorem modAxis_busRead (s : State) (a : AxisId) (f : Axis → Axis) : (s.modAxis a f).busRead = s.busRead := rfl
@[simp] theorem modAxis_gates (s : State) (a : AxisId) (f : Axis → Axis) : (s.modAxis a f).gates = s.gates := rfl
@[simp] theorem modAxis_groups (s : State) (a : AxisId) (f : Axis → Axis) : (s.modAxis a f).groups = s.groups := rfl
@[simp] theorem modAxis_emergency (s : State) (a : AxisId) (f : Axis → Axis) : (s.modAxis a f).emergency = s.emergency := rfl
@[simp] theorem modAxis_ovFlag (s : State) (a : AxisId) (f : Axis → Axis) : (s.modAxis a f).ovFlag = s.ovFlag := rfl
@[simp] theorem modAxis_uvFlag (s : State) (a : AxisId) (f : Axis → Axis) : (s.modAxis a f).uvFlag = s.uvFlag := rfl
@[simp] theorem modAxis_meas (s : State) (a : AxisId) (f : Axis → Axis) : (s.modAxis a f).meas = s.meas := rfl
@[simp] theorem modAxis_globals (s : State) (a : AxisId) (f : Axis → Axis) : (s.modAxis a f).globals = s.globals := rfl
@[simp] theorem modAxis_comp (s : State) (a : AxisId) (f : Axis → Axis) : (s.modAxis a f).comp = s.comp := rfl
@[simp] theorem modAxis_admin (s : State) (a : AxisId) (f : Axis → Axis) : (s.modAxis a f).admin = s.admin := rfl
@[simp] theorem modAxis_readTxn (s : State) (a : AxisId) (f : Axis → Axis) : (s.modAxis a f).readTxn = s.readTxn := rfl
@[simp] theorem modAxis_writeTxn (s : State) (a : AxisId) (f : Axis → Axis) : (s.modAxis a f).writeTxn = s.writeTxn := rfl
@[simp] theorem modAxis_arbiter (s : State) (a : AxisId) (f : Axis → Axis) : (s.modAxis a f).arbiter = s.arbiter := rfl
@[simp] theorem modAxis_reports (s : State) (a : AxisId) (f : Axis → Axis) : (s.modAxis a f).reports = s.reports := rfl
@[simp] theorem modAxis_freeCount (s : State) (a : AxisId) (f : Axis → Axis) : (s.modAxis a f).freeCount = s.freeCount := rfl
@[simp] theorem modAxis_pending (s : State) (a : AxisId) (f : Axis → Axis) : (s.modAxis a f).pending = s.pending := rfl

/-! ### The fields `setGroup` leaves -/

@[simp] theorem setGroup_part (s : State) (g : GroupId) (x : Group) : (s.setGroup g x).part = s.part := rfl
@[simp] theorem setGroup_resetLow (s : State) (g : GroupId) (x : Group) : (s.setGroup g x).resetLow = s.resetLow := rfl
@[simp] theorem setGroup_icause (s : State) (g : GroupId) (x : Group) : (s.setGroup g x).icause = s.icause := rfl
@[simp] theorem setGroup_imask (s : State) (g : GroupId) (x : Group) : (s.setGroup g x).imask = s.imask := rfl
@[simp] theorem setGroup_fsum (s : State) (g : GroupId) (x : Group) : (s.setGroup g x).fsum = s.fsum := rfl
@[simp] theorem setGroup_timebase (s : State) (g : GroupId) (x : Group) : (s.setGroup g x).timebase = s.timebase := rfl
@[simp] theorem setGroup_subTick (s : State) (g : GroupId) (x : Group) : (s.setGroup g x).subTick = s.subTick := rfl
@[simp] theorem setGroup_busRead (s : State) (g : GroupId) (x : Group) : (s.setGroup g x).busRead = s.busRead := rfl
@[simp] theorem setGroup_axes (s : State) (g : GroupId) (x : Group) : (s.setGroup g x).axes = s.axes := rfl
@[simp] theorem setGroup_gates (s : State) (g : GroupId) (x : Group) : (s.setGroup g x).gates = s.gates := rfl
@[simp] theorem setGroup_emergency (s : State) (g : GroupId) (x : Group) : (s.setGroup g x).emergency = s.emergency := rfl
@[simp] theorem setGroup_ovFlag (s : State) (g : GroupId) (x : Group) : (s.setGroup g x).ovFlag = s.ovFlag := rfl
@[simp] theorem setGroup_uvFlag (s : State) (g : GroupId) (x : Group) : (s.setGroup g x).uvFlag = s.uvFlag := rfl
@[simp] theorem setGroup_meas (s : State) (g : GroupId) (x : Group) : (s.setGroup g x).meas = s.meas := rfl
@[simp] theorem setGroup_globals (s : State) (g : GroupId) (x : Group) : (s.setGroup g x).globals = s.globals := rfl
@[simp] theorem setGroup_comp (s : State) (g : GroupId) (x : Group) : (s.setGroup g x).comp = s.comp := rfl
@[simp] theorem setGroup_admin (s : State) (g : GroupId) (x : Group) : (s.setGroup g x).admin = s.admin := rfl
@[simp] theorem setGroup_readTxn (s : State) (g : GroupId) (x : Group) : (s.setGroup g x).readTxn = s.readTxn := rfl
@[simp] theorem setGroup_writeTxn (s : State) (g : GroupId) (x : Group) : (s.setGroup g x).writeTxn = s.writeTxn := rfl
@[simp] theorem setGroup_arbiter (s : State) (g : GroupId) (x : Group) : (s.setGroup g x).arbiter = s.arbiter := rfl
@[simp] theorem setGroup_reports (s : State) (g : GroupId) (x : Group) : (s.setGroup g x).reports = s.reports := rfl
@[simp] theorem setGroup_freeCount (s : State) (g : GroupId) (x : Group) : (s.setGroup g x).freeCount = s.freeCount := rfl
@[simp] theorem setGroup_pending (s : State) (g : GroupId) (x : Group) : (s.setGroup g x).pending = s.pending := rfl

/-! ### The fields `markStale` leaves -/

@[simp] theorem markStale_part (s : State) (a : AxisId) : (markStale a s).part = s.part := rfl
@[simp] theorem markStale_resetLow (s : State) (a : AxisId) : (markStale a s).resetLow = s.resetLow := rfl
@[simp] theorem markStale_icause (s : State) (a : AxisId) : (markStale a s).icause = s.icause := rfl
@[simp] theorem markStale_imask (s : State) (a : AxisId) : (markStale a s).imask = s.imask := rfl
@[simp] theorem markStale_fsum (s : State) (a : AxisId) : (markStale a s).fsum = s.fsum := rfl
@[simp] theorem markStale_timebase (s : State) (a : AxisId) : (markStale a s).timebase = s.timebase := rfl
@[simp] theorem markStale_subTick (s : State) (a : AxisId) : (markStale a s).subTick = s.subTick := rfl
@[simp] theorem markStale_busRead (s : State) (a : AxisId) : (markStale a s).busRead = s.busRead := rfl
@[simp] theorem markStale_axes (s : State) (a : AxisId) : (markStale a s).axes = s.axes := rfl
@[simp] theorem markStale_gates (s : State) (a : AxisId) : (markStale a s).gates = s.gates := rfl
@[simp] theorem markStale_groups (s : State) (a : AxisId) : (markStale a s).groups = s.groups := rfl
@[simp] theorem markStale_emergency (s : State) (a : AxisId) : (markStale a s).emergency = s.emergency := rfl
@[simp] theorem markStale_ovFlag (s : State) (a : AxisId) : (markStale a s).ovFlag = s.ovFlag := rfl
@[simp] theorem markStale_uvFlag (s : State) (a : AxisId) : (markStale a s).uvFlag = s.uvFlag := rfl
@[simp] theorem markStale_globals (s : State) (a : AxisId) : (markStale a s).globals = s.globals := rfl
@[simp] theorem markStale_comp (s : State) (a : AxisId) : (markStale a s).comp = s.comp := rfl
@[simp] theorem markStale_admin (s : State) (a : AxisId) : (markStale a s).admin = s.admin := rfl
@[simp] theorem markStale_readTxn (s : State) (a : AxisId) : (markStale a s).readTxn = s.readTxn := rfl
@[simp] theorem markStale_writeTxn (s : State) (a : AxisId) : (markStale a s).writeTxn = s.writeTxn := rfl
@[simp] theorem markStale_arbiter (s : State) (a : AxisId) : (markStale a s).arbiter = s.arbiter := rfl
@[simp] theorem markStale_reports (s : State) (a : AxisId) : (markStale a s).reports = s.reports := rfl
@[simp] theorem markStale_freeCount (s : State) (a : AxisId) : (markStale a s).freeCount = s.freeCount := rfl
@[simp] theorem markStale_pending (s : State) (a : AxisId) : (markStale a s).pending = s.pending := rfl

/-! ### The fields `report` leaves -/

@[simp] theorem report_part (s : State) (c : TripCause) (l : List AxisId) : (report c l s).part = s.part := rfl
@[simp] theorem report_resetLow (s : State) (c : TripCause) (l : List AxisId) : (report c l s).resetLow = s.resetLow := rfl
@[simp] theorem report_icause (s : State) (c : TripCause) (l : List AxisId) : (report c l s).icause = s.icause := rfl
@[simp] theorem report_imask (s : State) (c : TripCause) (l : List AxisId) : (report c l s).imask = s.imask := rfl
@[simp] theorem report_fsum (s : State) (c : TripCause) (l : List AxisId) : (report c l s).fsum = s.fsum := rfl
@[simp] theorem report_timebase (s : State) (c : TripCause) (l : List AxisId) : (report c l s).timebase = s.timebase := rfl
@[simp] theorem report_subTick (s : State) (c : TripCause) (l : List AxisId) : (report c l s).subTick = s.subTick := rfl
@[simp] theorem report_busRead (s : State) (c : TripCause) (l : List AxisId) : (report c l s).busRead = s.busRead := rfl
@[simp] theorem report_axes (s : State) (c : TripCause) (l : List AxisId) : (report c l s).axes = s.axes := rfl
@[simp] theorem report_gates (s : State) (c : TripCause) (l : List AxisId) : (report c l s).gates = s.gates := rfl
@[simp] theorem report_groups (s : State) (c : TripCause) (l : List AxisId) : (report c l s).groups = s.groups := rfl
@[simp] theorem report_emergency (s : State) (c : TripCause) (l : List AxisId) : (report c l s).emergency = s.emergency := rfl
@[simp] theorem report_ovFlag (s : State) (c : TripCause) (l : List AxisId) : (report c l s).ovFlag = s.ovFlag := rfl
@[simp] theorem report_uvFlag (s : State) (c : TripCause) (l : List AxisId) : (report c l s).uvFlag = s.uvFlag := rfl
@[simp] theorem report_meas (s : State) (c : TripCause) (l : List AxisId) : (report c l s).meas = s.meas := rfl
@[simp] theorem report_globals (s : State) (c : TripCause) (l : List AxisId) : (report c l s).globals = s.globals := rfl
@[simp] theorem report_comp (s : State) (c : TripCause) (l : List AxisId) : (report c l s).comp = s.comp := rfl
@[simp] theorem report_admin (s : State) (c : TripCause) (l : List AxisId) : (report c l s).admin = s.admin := rfl
@[simp] theorem report_readTxn (s : State) (c : TripCause) (l : List AxisId) : (report c l s).readTxn = s.readTxn := rfl
@[simp] theorem report_writeTxn (s : State) (c : TripCause) (l : List AxisId) : (report c l s).writeTxn = s.writeTxn := rfl
@[simp] theorem report_arbiter (s : State) (c : TripCause) (l : List AxisId) : (report c l s).arbiter = s.arbiter := rfl
@[simp] theorem report_freeCount (s : State) (c : TripCause) (l : List AxisId) : (report c l s).freeCount = s.freeCount := rfl
@[simp] theorem report_pending (s : State) (c : TripCause) (l : List AxisId) : (report c l s).pending = s.pending := rfl

/-! ### The fields `raise` leaves -/

@[simp] theorem raise_part (s : State) (c : Cause) : (raise c s).part = s.part := rfl
@[simp] theorem raise_resetLow (s : State) (c : Cause) : (raise c s).resetLow = s.resetLow := rfl
@[simp] theorem raise_imask (s : State) (c : Cause) : (raise c s).imask = s.imask := rfl
@[simp] theorem raise_fsum (s : State) (c : Cause) : (raise c s).fsum = s.fsum := rfl
@[simp] theorem raise_timebase (s : State) (c : Cause) : (raise c s).timebase = s.timebase := rfl
@[simp] theorem raise_subTick (s : State) (c : Cause) : (raise c s).subTick = s.subTick := rfl
@[simp] theorem raise_busRead (s : State) (c : Cause) : (raise c s).busRead = s.busRead := rfl
@[simp] theorem raise_axes (s : State) (c : Cause) : (raise c s).axes = s.axes := rfl
@[simp] theorem raise_gates (s : State) (c : Cause) : (raise c s).gates = s.gates := rfl
@[simp] theorem raise_groups (s : State) (c : Cause) : (raise c s).groups = s.groups := rfl
@[simp] theorem raise_emergency (s : State) (c : Cause) : (raise c s).emergency = s.emergency := rfl
@[simp] theorem raise_ovFlag (s : State) (c : Cause) : (raise c s).ovFlag = s.ovFlag := rfl
@[simp] theorem raise_uvFlag (s : State) (c : Cause) : (raise c s).uvFlag = s.uvFlag := rfl
@[simp] theorem raise_meas (s : State) (c : Cause) : (raise c s).meas = s.meas := rfl
@[simp] theorem raise_globals (s : State) (c : Cause) : (raise c s).globals = s.globals := rfl
@[simp] theorem raise_comp (s : State) (c : Cause) : (raise c s).comp = s.comp := rfl
@[simp] theorem raise_admin (s : State) (c : Cause) : (raise c s).admin = s.admin := rfl
@[simp] theorem raise_readTxn (s : State) (c : Cause) : (raise c s).readTxn = s.readTxn := rfl
@[simp] theorem raise_writeTxn (s : State) (c : Cause) : (raise c s).writeTxn = s.writeTxn := rfl
@[simp] theorem raise_arbiter (s : State) (c : Cause) : (raise c s).arbiter = s.arbiter := rfl
@[simp] theorem raise_reports (s : State) (c : Cause) : (raise c s).reports = s.reports := rfl
@[simp] theorem raise_freeCount (s : State) (c : Cause) : (raise c s).freeCount = s.freeCount := rfl
@[simp] theorem raise_pending (s : State) (c : Cause) : (raise c s).pending = s.pending := rfl

/-! ### The fields `refreshGates` leaves -/

@[simp] theorem refreshGates_part (s : State) : (refreshGates s).part = s.part := rfl
@[simp] theorem refreshGates_resetLow (s : State) : (refreshGates s).resetLow = s.resetLow := rfl
@[simp] theorem refreshGates_icause (s : State) : (refreshGates s).icause = s.icause := rfl
@[simp] theorem refreshGates_imask (s : State) : (refreshGates s).imask = s.imask := rfl
@[simp] theorem refreshGates_fsum (s : State) : (refreshGates s).fsum = s.fsum := rfl
@[simp] theorem refreshGates_timebase (s : State) : (refreshGates s).timebase = s.timebase := rfl
@[simp] theorem refreshGates_subTick (s : State) : (refreshGates s).subTick = s.subTick := rfl
@[simp] theorem refreshGates_busRead (s : State) : (refreshGates s).busRead = s.busRead := rfl
@[simp] theorem refreshGates_axes (s : State) : (refreshGates s).axes = s.axes := rfl
@[simp] theorem refreshGates_groups (s : State) : (refreshGates s).groups = s.groups := rfl
@[simp] theorem refreshGates_emergency (s : State) : (refreshGates s).emergency = s.emergency := rfl
@[simp] theorem refreshGates_ovFlag (s : State) : (refreshGates s).ovFlag = s.ovFlag := rfl
@[simp] theorem refreshGates_uvFlag (s : State) : (refreshGates s).uvFlag = s.uvFlag := rfl
@[simp] theorem refreshGates_meas (s : State) : (refreshGates s).meas = s.meas := rfl
@[simp] theorem refreshGates_globals (s : State) : (refreshGates s).globals = s.globals := rfl
@[simp] theorem refreshGates_comp (s : State) : (refreshGates s).comp = s.comp := rfl
@[simp] theorem refreshGates_admin (s : State) : (refreshGates s).admin = s.admin := rfl
@[simp] theorem refreshGates_readTxn (s : State) : (refreshGates s).readTxn = s.readTxn := rfl
@[simp] theorem refreshGates_writeTxn (s : State) : (refreshGates s).writeTxn = s.writeTxn := rfl
@[simp] theorem refreshGates_arbiter (s : State) : (refreshGates s).arbiter = s.arbiter := rfl
@[simp] theorem refreshGates_reports (s : State) : (refreshGates s).reports = s.reports := rfl
@[simp] theorem refreshGates_freeCount (s : State) : (refreshGates s).freeCount = s.freeCount := rfl
@[simp] theorem refreshGates_pending (s : State) : (refreshGates s).pending = s.pending := rfl

/-! ### The fields `endExecution` leaves -/

@[simp] theorem endExecution_part (s : State) : (endExecution s).part = s.part := rfl
@[simp] theorem endExecution_resetLow (s : State) : (endExecution s).resetLow = s.resetLow := rfl
@[simp] theorem endExecution_icause (s : State) : (endExecution s).icause = s.icause := rfl
@[simp] theorem endExecution_imask (s : State) : (endExecution s).imask = s.imask := rfl
@[simp] theorem endExecution_fsum (s : State) : (endExecution s).fsum = s.fsum := rfl
@[simp] theorem endExecution_timebase (s : State) : (endExecution s).timebase = s.timebase := rfl
@[simp] theorem endExecution_subTick (s : State) : (endExecution s).subTick = s.subTick := rfl
@[simp] theorem endExecution_busRead (s : State) : (endExecution s).busRead = s.busRead := rfl
@[simp] theorem endExecution_axes (s : State) : (endExecution s).axes = s.axes := rfl
@[simp] theorem endExecution_gates (s : State) : (endExecution s).gates = s.gates := rfl
@[simp] theorem endExecution_groups (s : State) : (endExecution s).groups = s.groups := rfl
@[simp] theorem endExecution_emergency (s : State) : (endExecution s).emergency = s.emergency := rfl
@[simp] theorem endExecution_ovFlag (s : State) : (endExecution s).ovFlag = s.ovFlag := rfl
@[simp] theorem endExecution_uvFlag (s : State) : (endExecution s).uvFlag = s.uvFlag := rfl
@[simp] theorem endExecution_meas (s : State) : (endExecution s).meas = s.meas := rfl
@[simp] theorem endExecution_globals (s : State) : (endExecution s).globals = s.globals := rfl
@[simp] theorem endExecution_comp (s : State) : (endExecution s).comp = s.comp := rfl
@[simp] theorem endExecution_readTxn (s : State) : (endExecution s).readTxn = s.readTxn := rfl
@[simp] theorem endExecution_writeTxn (s : State) : (endExecution s).writeTxn = s.writeTxn := rfl
@[simp] theorem endExecution_arbiter (s : State) : (endExecution s).arbiter = s.arbiter := rfl
@[simp] theorem endExecution_reports (s : State) : (endExecution s).reports = s.reports := rfl
@[simp] theorem endExecution_freeCount (s : State) : (endExecution s).freeCount = s.freeCount := rfl
@[simp] theorem endExecution_pending (s : State) : (endExecution s).pending = s.pending := rfl

/-! ### The fields `takeReservation` leaves -/

@[simp] theorem takeReservation_part (s : State) : (takeReservation s).part = s.part := rfl
@[simp] theorem takeReservation_resetLow (s : State) : (takeReservation s).resetLow = s.resetLow := rfl
@[simp] theorem takeReservation_icause (s : State) : (takeReservation s).icause = s.icause := rfl
@[simp] theorem takeReservation_imask (s : State) : (takeReservation s).imask = s.imask := rfl
@[simp] theorem takeReservation_fsum (s : State) : (takeReservation s).fsum = s.fsum := rfl
@[simp] theorem takeReservation_timebase (s : State) : (takeReservation s).timebase = s.timebase := rfl
@[simp] theorem takeReservation_subTick (s : State) : (takeReservation s).subTick = s.subTick := rfl
@[simp] theorem takeReservation_busRead (s : State) : (takeReservation s).busRead = s.busRead := rfl
@[simp] theorem takeReservation_axes (s : State) : (takeReservation s).axes = s.axes := rfl
@[simp] theorem takeReservation_gates (s : State) : (takeReservation s).gates = s.gates := rfl
@[simp] theorem takeReservation_groups (s : State) : (takeReservation s).groups = s.groups := rfl
@[simp] theorem takeReservation_emergency (s : State) : (takeReservation s).emergency = s.emergency := rfl
@[simp] theorem takeReservation_ovFlag (s : State) : (takeReservation s).ovFlag = s.ovFlag := rfl
@[simp] theorem takeReservation_uvFlag (s : State) : (takeReservation s).uvFlag = s.uvFlag := rfl
@[simp] theorem takeReservation_meas (s : State) : (takeReservation s).meas = s.meas := rfl
@[simp] theorem takeReservation_globals (s : State) : (takeReservation s).globals = s.globals := rfl
@[simp] theorem takeReservation_admin (s : State) : (takeReservation s).admin = s.admin := rfl
@[simp] theorem takeReservation_readTxn (s : State) : (takeReservation s).readTxn = s.readTxn := rfl
@[simp] theorem takeReservation_writeTxn (s : State) : (takeReservation s).writeTxn = s.writeTxn := rfl
@[simp] theorem takeReservation_arbiter (s : State) : (takeReservation s).arbiter = s.arbiter := rfl
@[simp] theorem takeReservation_reports (s : State) : (takeReservation s).reports = s.reports := rfl
@[simp] theorem takeReservation_freeCount (s : State) : (takeReservation s).freeCount = s.freeCount := rfl
@[simp] theorem takeReservation_pending (s : State) : (takeReservation s).pending = s.pending := rfl

/-! ### The fields `releaseReservations` leaves -/

@[simp] theorem releaseReservations_part (s : State) (n : Nat) : (releaseReservations n s).part = s.part := rfl
@[simp] theorem releaseReservations_resetLow (s : State) (n : Nat) : (releaseReservations n s).resetLow = s.resetLow := rfl
@[simp] theorem releaseReservations_icause (s : State) (n : Nat) : (releaseReservations n s).icause = s.icause := rfl
@[simp] theorem releaseReservations_imask (s : State) (n : Nat) : (releaseReservations n s).imask = s.imask := rfl
@[simp] theorem releaseReservations_fsum (s : State) (n : Nat) : (releaseReservations n s).fsum = s.fsum := rfl
@[simp] theorem releaseReservations_timebase (s : State) (n : Nat) : (releaseReservations n s).timebase = s.timebase := rfl
@[simp] theorem releaseReservations_subTick (s : State) (n : Nat) : (releaseReservations n s).subTick = s.subTick := rfl
@[simp] theorem releaseReservations_busRead (s : State) (n : Nat) : (releaseReservations n s).busRead = s.busRead := rfl
@[simp] theorem releaseReservations_axes (s : State) (n : Nat) : (releaseReservations n s).axes = s.axes := rfl
@[simp] theorem releaseReservations_gates (s : State) (n : Nat) : (releaseReservations n s).gates = s.gates := rfl
@[simp] theorem releaseReservations_groups (s : State) (n : Nat) : (releaseReservations n s).groups = s.groups := rfl
@[simp] theorem releaseReservations_emergency (s : State) (n : Nat) : (releaseReservations n s).emergency = s.emergency := rfl
@[simp] theorem releaseReservations_ovFlag (s : State) (n : Nat) : (releaseReservations n s).ovFlag = s.ovFlag := rfl
@[simp] theorem releaseReservations_uvFlag (s : State) (n : Nat) : (releaseReservations n s).uvFlag = s.uvFlag := rfl
@[simp] theorem releaseReservations_meas (s : State) (n : Nat) : (releaseReservations n s).meas = s.meas := rfl
@[simp] theorem releaseReservations_globals (s : State) (n : Nat) : (releaseReservations n s).globals = s.globals := rfl
@[simp] theorem releaseReservations_admin (s : State) (n : Nat) : (releaseReservations n s).admin = s.admin := rfl
@[simp] theorem releaseReservations_readTxn (s : State) (n : Nat) : (releaseReservations n s).readTxn = s.readTxn := rfl
@[simp] theorem releaseReservations_writeTxn (s : State) (n : Nat) : (releaseReservations n s).writeTxn = s.writeTxn := rfl
@[simp] theorem releaseReservations_arbiter (s : State) (n : Nat) : (releaseReservations n s).arbiter = s.arbiter := rfl
@[simp] theorem releaseReservations_reports (s : State) (n : Nat) : (releaseReservations n s).reports = s.reports := rfl
@[simp] theorem releaseReservations_freeCount (s : State) (n : Nat) : (releaseReservations n s).freeCount = s.freeCount := rfl
@[simp] theorem releaseReservations_pending (s : State) (n : Nat) : (releaseReservations n s).pending = s.pending := rfl

end Sys2Proof.Machine
end

