-- ==== Sys2Proof/Laws/Admin.lean ====
section
/-! SUPPORT. What the admin unit's shared operations do: acceptance of a returned command, the end of its
execution, and the checks of its arguments. -/

namespace Sys2Proof.Machine

/-- The state in which an accepted command is checked and executed (R172). -/
def acceptedState (s : State) (c : AdminCommand) : State :=
  { s with readTxn := none, admin := { s.admin with
      state := .executing, current := some c, consumer := (s.admin.consumer + 1) % s.admin.ringSize } }

theorem ringSize_ne_zero_of_occupancy {u : AdminUnit} (h : 0 < u.occupancy) : u.ringSize ≠ 0 := by
  intro hz; simp [AdminUnit.occupancy, occupancyOf, hz] at h

/-- With no read in flight an accepted command is executed at once (R174). -/
theorem acceptCommand_of_no_read {s : State} (c : AdminCommand) (hr : s.readTxn = none)
    (ho : 0 < s.admin.occupancy) : acceptCommand c s = runCommand c (acceptedState s c) := by
  have hz := ringSize_ne_zero_of_occupancy ho
  have hm : ∀ t : State, t.readTxn = none → mustWait c t = false := by
    intro t ht
    unfold mustWait
    split <;> simp [State.readInFlight, ht]
  obtain ⟨part, low, ic, im, fs, tb, st, br, ax, ga, gr, em, ov, uv, me, gl, co, ad, rd, wr, ar, re, fc, pe⟩ := s
  simp only at hr ho hz
  subst hr
  simp only [acceptCommand, beginCommand, hm, acceptedState, nextIndex, if_neg hz,
    if_neg (Nat.pos_iff_ne_zero.mp ho)]
  rfl

/-- The OK return of the administrative read outstanding in RUNNING runs the command (R172). -/
theorem takeCommand_of_returns {s : State} (h : CommandReturns s) (c : AdminCommand) :
    takeCommand c s = runCommand c (acceptedState s c) := by
  obtain ⟨hl, hp, hc, hf, ho, hr⟩ := h
  rcases hrd : s.readTxn with _ | t
  · simp [hrd] at hr
  · simp only [hrd, Option.map_some, Option.some.injEq, Prod.mk.injEq] at hr
    have live : s.live = true := by simp [State.live, hl, hp]
    simp only [takeCommand, live, hf, hrd, hr.1, returnedCommand, hp, hc, Bool.not_true, Bool.false_eq_true,
      if_false, if_true, false_and, ne_eq, not_true_eq_false]
    have := acceptCommand_of_no_read (s := { s with readTxn := none }) c rfl ho
    rw [← hp]
    exact this

/-- A completion handed over on a configured ring, outside FAILED, joins the pending queue (R157). -/
theorem handOff_of_ring {s : State} (cs : List Completion) (hc : s.comp.ringSize ≠ 0)
    (hp : s.part ≠ .failed) :
    handOff cs s = { s with comp := { s.comp with queue := s.comp.queue ++ cs } } := by
  simp [handOff, hc, hp]

theorem axisOfByte_of_ge {b : Byte} (h : 4 ≤ b.toNat) : axisOfByte b = none := by
  simp [axisOfByte, Nat.not_lt.mpr h]

theorem axisOfByte_of_eq {b : Byte} {a : AxisId} (h : b.toNat = a.val) : axisOfByte b = some a := by
  have := a.isLt
  simp [axisOfByte, h, this]

theorem groupOfByte_of_ge {b : Byte} (h : 8 ≤ b.toNat) : groupOfByte b = none := by
  simp [groupOfByte, Nat.not_lt.mpr h]

theorem groupOfByte_of_eq {b : Byte} {g : GroupId} (h : b.toNat = g.val) : groupOfByte b = some g := by
  have := g.isLt
  simp [groupOfByte, h, this]

theorem ringSizeOk_iff (n : Nat) : ringSizeOk n = true ↔
    n ∈ [4, 8, 16, 32, 64, 128, 256, 512, 1024, 2048, 4096] := by
  simp only [ringSizeOk, Bool.or_eq_true, beq_iff_eq, List.mem_cons, List.not_mem_nil, or_false, or_assoc]

theorem alignedTo64_iff (w : Word) : alignedTo64 w = true ↔ w.toNat % 64 = 0 := by
  simp only [alignedTo64, beq_iff_eq]
  rw [← BitVec.toNat_inj, BitVec.toNat_and]
  show w.toNat &&& 2 ^ 6 - 1 = 0 ↔ _
  rw [Nat.and_two_pow_sub_one_eq_mod]

/-- The valid arguments of a ring are those the two checks accept (R178, R179). -/
theorem ringArguments_iff (base : Word) (size : Half) :
    (ringSizeOk size.toNat && alignedTo64 base) = true ↔ RingArguments base size := by
  rw [Bool.and_eq_true, ringSizeOk_iff, alignedTo64_iff]

end Sys2Proof.Machine
end

