-- ==== Sys2Proof/Laws/Settle.lean ====
section
/-! SUPPORT. What the end of an event can do: the lemmas about `settle` and the arbiters behind it. -/

namespace Sys2Proof.Machine

/-! ### The parts of `settle` -/

theorem endQuiesce_of_steady {s : State} (h : Steady s) : endQuiesce s = s := by
  unfold endQuiesce
  split
  · next hq => exact absurd hq.2 (h.1 hq.1)
  · rfl

theorem endResetting_of_steady {s : State} (h : Steady s) : endResetting s = s := by
  unfold endResetting
  split
  · next hr => rcases h.2 hr.1 with h' | h' <;> simp_all
  · rfl

/-- A steady event ends with the arbiters and the legs alone. -/
theorem settle_of_steady {s : State} (h : Steady s) :
    settle s = refreshGates (issueWrite (issueRead s)) := by
  rw [settle, endQuiesce_of_steady h, endResetting_of_steady h]

/-- All a read issue can do (R141, R143). -/
theorem issueRead_cases (s : State) :
    (issueRead s = s ∧ (s.readTxn ≠ none ∨ arbiterChoice s = none)) ∨
    (∃ ring, s.readTxn = none ∧ arbiterChoice s = some ring ∧ issueRead s = issueReadOf ring s) := by
  unfold issueRead
  split
  · next h => exact .inl ⟨rfl, .inl (by intro h'; simp [h'] at h)⟩
  · next h =>
    split
    · next ring hc => exact .inr ⟨ring, by simpa using h, hc, rfl⟩
    · next hc => exact .inl ⟨rfl, .inr hc⟩

/-- All a write issue can do (R158). -/
theorem issueWrite_cases (s : State) :
    (issueWrite s = s ∧ (s.writeTxn ≠ none ∨ s.part = .resetting ∨ s.part = .failed ∨
        (s.comp.queue = [] ∧ ∀ w ∈ s.admin.snapshot, w.issued = true))) ∨
    (∃ address data formedAt, s.writeTxn = none ∧ s.part ≠ .resetting ∧ s.part ≠ .failed ∧
        s.admin.snapshot = some ⟨address, data, formedAt, false⟩ ∧
        issueWrite s = { s with
          writeTxn := some ⟨.snapshot, address, data, loadCounter s.globals.writeTimeout⟩
          admin := { s.admin with snapshot := some ⟨address, data, formedAt, true⟩ } }) ∨
    (∃ c rest, s.writeTxn = none ∧ s.part ≠ .resetting ∧ s.part ≠ .failed ∧
        (∀ w ∈ s.admin.snapshot, w.issued = true) ∧ s.comp.queue = c :: rest ∧
        issueWrite s = { s with writeTxn := some ⟨.completion,
          s.comp.ringBase + BitVec.ofNat 32 (16 * s.comp.producer),
          completionBytes s.comp.lap c, loadCounter s.globals.writeTimeout⟩ }) := by
  unfold issueWrite
  split
  · next h =>
    refine .inl ⟨rfl, ?_⟩
    simp only [Bool.or_eq_true, beq_iff_eq] at h
    rcases h with (h | h) | h
    · exact .inl (by intro h'; simp [h'] at h)
    · exact .inr (.inl h)
    · exact .inr (.inr (.inl h))
  · next h =>
    simp only [Bool.or_eq_true, beq_iff_eq, not_or, Option.isSome_iff_ne_none, ne_eq,
      Decidable.not_not] at h
    obtain ⟨⟨h1, h2⟩, h3⟩ := h
    split
    · next address data formedAt hs => exact .inr (.inl ⟨address, data, formedAt, h1, h2, h3, hs, rfl⟩)
    · next hs =>
      have issued : ∀ w ∈ s.admin.snapshot, w.issued = true := by
        intro w hw
        obtain ⟨address, data, formedAt, issued⟩ := w
        cases issued
        · exact absurd hw (hs address data formedAt)
        · rfl
      split
      · next c rest hq => exact .inr (.inr ⟨c, rest, h1, h2, h3, issued, hq, rfl⟩)
      · next hq => exact .inl ⟨rfl, .inr (.inr (.inr ⟨hq, issued⟩))⟩

/-! ### `settle` as a whole -/

/-- What the read arbiter leaves, field by field (R141 to R143). -/
theorem issueRead_eq (s : State) : issueRead s = { s with
    readTxn := readIssued s
    arbiter := match servedRing s with
      | some (.axis a) => a
      | _ => s.arbiter
    comp := { s.comp with reservations := s.comp.reservations +
      (if servedRing s ≠ none ∧ s.comp.ringSize ≠ 0 then 1 else 0) }
    admin := { s.admin with state := if servedRing s = some .admin then .fetching else s.admin.state } } := by
  rcases hr : s.readTxn with _ | t
  · rcases hc : arbiterChoice s with _ | ring
    · have h : servedRing s = none := by simp [servedRing, hr, hc]
      simp [issueRead, readIssued, h, hr, hc]
      rw [← hr]
    · have h : servedRing s = some ring := by simp [servedRing, hr, hc]
      simp only [issueRead, readIssued, h, hr, hc, Option.isSome_none, Bool.false_eq_true, if_false]
      by_cases hz : s.comp.ringSize = 0 <;> cases ring <;>
        simp [issueReadOf, takeReservation, slotAddress, loadCounter, loaded, hz]
      all_goals rw [← hz]
  · have h : servedRing s = none := by simp [servedRing, hr]
    simp [issueRead, readIssued, h, hr]
    rw [← hr]

/-- What the write channel's arbiter leaves, field by field (R158, R188). -/
theorem issueWrite_eq (s : State) : issueWrite s = { s with
    writeTxn := writeIssued s
    admin := { s.admin with snapshot := (if WriteFree s then
      s.admin.snapshot.map fun w => { w with issued := true } else s.admin.snapshot) } } := by
  have same : ∀ w : Option SnapshotWork, (∀ x ∈ w, x.issued = true) →
      w.map (fun x => { x with issued := true }) = w := by
    rintro (_ | ⟨_, _, _, _⟩) h
    · rfl
    · have : _ = true := h _ rfl
      subst this; rfl
  rcases issueWrite_cases s with ⟨he, h⟩ | ⟨address, data, formedAt, h1, h2, h3, hs, he⟩ |
      ⟨c, rest, h1, h2, h3, hi, hq, he⟩
  · rw [he]
    by_cases hf : WriteFree s
    · obtain ⟨hq, hi⟩ : s.comp.queue = [] ∧ ∀ w ∈ s.admin.snapshot, w.issued = true := by
        rcases h with h | h | h | h
        · exact absurd hf.1 h
        · exact absurd h hf.2.2
        · exact absurd h hf.2.1
        · exact h
      have hw : writeIssued s = s.writeTxn := by
        rw [writeIssued, if_pos hf, hf.1, hq]
        rcases hs : s.admin.snapshot with _ | ⟨_, _, _, b⟩
        · rfl
        · have : b = true := hi _ hs
          subst this; rfl
      rw [if_pos hf, hw, same _ hi]
    · rw [writeIssued, if_neg hf, if_neg hf]
  · have hf : WriteFree s := ⟨h1, h3, h2⟩
    rw [he, if_pos hf, writeIssued, if_pos hf, hs]
    rfl
  · have hf : WriteFree s := ⟨h1, h3, h2⟩
    have hw : writeIssued s = some ⟨.completion, s.comp.ringBase + BitVec.ofNat 32 (16 * s.comp.producer),
        completionBytes s.comp.lap c, loaded s.globals.writeTimeout⟩ := by
      rw [writeIssued, if_pos hf, hq]
      rcases hs : s.admin.snapshot with _ | ⟨_, _, _, b⟩
      · rfl
      · have : b = true := hi _ hs
        subst this; rfl
    rw [he, if_pos hf, hw, same _ hi]
    rfl

theorem legDemand_congr {s t : State} (ha : t.axes = s.axes) (he : t.emergency = s.emergency)
    (hp : t.part = s.part) (a : AxisId) (k : Leg) : legDemand t a k = legDemand s a k := by
  simp only [legDemand, axis_congr ha, he, hp]

/-- The end of a steady event is what `Settles` says. -/
theorem settles_settle {s : State} (h : Steady s) : Settles s (settle s) := by
  rw [settle_of_steady h, issueWrite_eq, issueRead_eq]
  refine ⟨?_, ?_, rfl, rfl, rfl, rfl, rfl, rfl⟩
  · rfl
  · intro a k
    rw [gate_refreshGates]
    rfl

/-- `Settles` says everything about the state it answers. -/
theorem Settles.unique {s t u : State} (h : Settles s t) (k : Settles s u) : t = u := by
  have gates : t.gates = u.gates := by
    have eq : ∀ a l, t.gate a l = u.gate a l := by
      intro a l
      have axes : t.axes = u.axes := by rw [h.frame, k.frame]
      have part : t.part = u.part := by rw [h.frame, k.frame]
      have emergency : t.emergency = u.emergency := by rw [h.frame, k.frame]
      rw [h.gates, k.gates, legDemand_congr axes emergency part]
    refine Vector.ext fun i hi => ?_
    have u' := eq ⟨i, hi⟩ .u
    have v' := eq ⟨i, hi⟩ .v
    have w' := eq ⟨i, hi⟩ .w
    simp only [State.gate, Legs.get, Fin.getElem_fin] at u' v' w'
    revert u' v' w'
    generalize t.gates[i] = x
    generalize u.gates[i] = y
    cases x; cases y
    rintro rfl rfl rfl; rfl
  rw [h.frame, k.frame, gates, h.readTxn, k.readTxn, h.writeTxn, k.writeTxn, h.arbiter, k.arbiter,
    h.reservations, k.reservations, h.adminState, k.adminState, h.snapshot, k.snapshot]

end Sys2Proof.Machine
end

