-- ==== Sys2Proof/Laws/Ops.lean ====
section
/-! SUPPORT. What each shared operation does, said once: the reports, faults, completions and departures
of an event, and the sequencer's validation, requests and staging, in the words of Safety.lean. -/

namespace Sys2Proof.Machine

/-! ### Premises -/

theorem live_iff {s : State} : s.live = true ↔ s.resetLow = false ∧ s.part ≠ .resetting := by
  simp [State.live, bne_iff_ne]

theorem steady_of_running {s : State} (h : s.part = .running) : Steady s := by
  constructor <;> simp [h]

/-- An event that ends with `settle` on a steady state answers that state up to `Settles`. -/
theorem next_of_settle {s u : State} {o : Host.Outcome State Fault Refusal}
    (ho : o = .next (settle u)) (hs : Steady s) (e : u = s) : ∃ t, o = .next t ∧ Settles s t := by
  subst e; exact ⟨_, ho, settles_settle hs⟩

/-! ### Choices and reports (R94, R95) -/

theorem pickNext_nil {α : Type} (k : Nat) : pickNext k ([] : List α) = none := rfl

theorem pickNext_singleton {α : Type} (k : Nat) (x : α) : pickNext k [x] = some (x, []) := rfl

/-- What every event of a kind keeps, and a change of the free count keeps, events taken in any order
keep: the invariants of a tick and of simultaneous expiries go through this one induction. -/
theorem takeInOrder_keeps {α : Type} {P : State → Prop} (take : α → State → State)
    (hcount : ∀ s n, P s → P { s with freeCount := n }) (htake : ∀ e s, P s → P (take e s))
    (bound : Nat) (due : List α) (s : State) (h : P s) : P (takeInOrder take bound due s) := by
  induction bound generalizing due s with
  | zero => exact h
  | succ bound ih =>
    unfold takeInOrder
    split
    · exact h
    · refine ih _ _ (htake _ _ ?_)
      split
      · exact h
      · exact hcount _ _ h

theorem takeInOrder_nil {α : Type} (take : α → State → State) (bound : Nat) (s : State) :
    takeInOrder take bound [] s = s := by
  cases bound <;> simp [takeInOrder, pickNext]

theorem takeInOrder_singleton {α : Type} (take : α → State → State) (bound : Nat) (e : α) (s : State) :
    takeInOrder take (bound + 1) [e] s = take e s := by
  simp [takeInOrder, pickNext, takeInOrder_nil]

/-- A tick on which nothing falls due only moves the counts and settles. -/
theorem tick_of_nothing_due {s : State} (hr : s.resetLow = false) (hd : dueEvents s = []) :
    tick s = settle (advanceCounts s) := by
  simp [tick, hr, hd, takeInOrder]

/-- A tick on which one event falls due. -/
theorem tick_of_one_due {s : State} {e : TickEvent} (hr : s.resetLow = false) (hd : dueEvents s = [e]) :
    tick s = settle (takeTickEvent e (settle (advanceCounts s))) := by
  simp [tick, hr, hd, takeInOrder_singleton, settledTickEvent]

/-- What falls due with a tick is what `DueNow` says. -/
theorem mem_dueEvents {s : State} {e : TickEvent} : e ∈ dueEvents s ↔ DueNow s e := by
  have all : ∀ a : AxisId, a ∈ axisIds := by decide
  have conv : ∀ p, s.meas.queue.head?.any (·.progress == p) = true ↔
      ∃ q ∈ s.meas.queue.head?, q.progress = p := by
    intro p; cases s.meas.queue.head? <;> simp
  cases e <;>
    simp [dueEvents, DueNow, releaseDue, carrierDue, State.carrierRuns, Axis.turns, legUDue, resultDue,
      conversionDue, timebaseDue, Config.conversionTicks, Config.ticksPerMicrosecond, live_iff, all, conv,
      and_assoc]
  case legU => tauto
  case result => cases s.meas.queue.head? <;> simp; tauto

/-- Two events that come together are taken one after the other, in one of the two orders. -/
theorem takeInOrder_pair {α : Type} (take : α → State → State) (bound : Nat) (d e : α) (s : State) :
    takeInOrder take (bound + 2) [d, e] s =
        take e (take d { s with freeCount := s.freeCount + 1 }) ∨
      takeInOrder take (bound + 2) [d, e] s =
        take d (take e { s with freeCount := s.freeCount + 1 }) := by
  rcases Nat.mod_two_eq_zero_or_one (Config.freeChoice s.freeCount) with h | h
  · left; simp [takeInOrder, pickNext, h, takeInOrder_nil]
  · right; simp [takeInOrder, pickNext, h, takeInOrder_nil]

theorem takeReport_of_idle {s : State} {r : Report} (h : (s.axis r.axis).state = .idle) :
    takeReport r s = s := by
  unfold takeReport; split
  · rfl
  · simp only [h]

theorem takeReport_of_tripped {s : State} {r : Report} (hl : s.live = true)
    (h : (s.axis r.axis).state = .tripped) :
    takeReport r s = s.setAxis r.axis { s.axis r.axis with
      tripRecord := (s.axis r.axis).tripRecord.map (·.addLater r.cause) } := by
  simp [takeReport, hl, h, State.modAxis]

theorem takeReport_of_active {s : State} {r : Report} (hl : s.live = true)
    (h : s.activeAxis r.axis = true) : takeReport r s = tripAxis r.axis r.cause s := by
  simp only [State.activeAxis] at h
  unfold takeReport
  cases hh : (s.axis r.axis).state <;> simp [hh, AxisState.isActive] at h <;> simp [hl]

/-! ### Faults, completions and departures -/

/-- A fault recorded is what `faulted` says (R166, R198). -/
theorem recordFault_eq (b : FaultBit) (s : State) : recordFault b s = faulted b.position s := by
  unfold recordFault faulted
  simp only [raise, Cause.bit]
  split <;> simp

/-- Completions handed over are what `handedOver` says (R157, R161). -/
theorem handOff_eq (cs : List Completion) (s : State) : handOff cs s = handedOver cs s := rfl

/-- A segment's OK end is what `endedOk` says (R4). -/
theorem completeOk_eq (a : AxisId) (seg : Segment) (n : Nat) (st : Stats) (s : State) :
    completeOk a seg n st s = endedOk a seg n st s := rfl

/-- The end of a command's execution is what `ended` says (R173, R174). -/
theorem finishCommand_eq (tag : Half) (status : Status) (detail : Detail) (result : AdminResult)
    (s : State) : finishCommand tag status detail result s =
      ended s ⟨tag, .admin, status, detail, .admin result⟩ := rfl

/-- A command's completion on a configured ring, outside FAILED, and the end of its execution (R173). -/
theorem finishCommand_of_ring {s : State} (tag : Half) (status : Status) (detail : Detail)
    (result : AdminResult) (h1 : s.comp.ringSize ≠ 0) (h2 : s.part ≠ .failed) :
    finishCommand tag status detail result s = endExecution { s with comp := { s.comp with
      queue := s.comp.queue ++ [⟨tag, .admin, status, detail, .admin result⟩] } } := by
  simp [finishCommand, handOff, h1, h2, adminCompletion]

theorem resumeCommand_of_not_executing {s : State} {a : AxisId} (h : s.admin.state ≠ .executing) :
    resumeCommand a s = s := by
  unfold resumeCommand; split
  · next h1 _ => exact absurd h1 h
  · rfl

/-- A departure is what `departed` says (R90). -/
theorem depart_eq (a : AxisId) (s : State) : depart a s = departed a s := by
  unfold depart departed
  rcases hg : (s.axis a).arrival with _ | g
  · rfl
  · simp only
    by_cases h1 : (s.group g).state = .gathering <;>
      by_cases h2 : hasAxis (s.group g).arrived a = true <;> simp [h1, h2]
    have bits : ∀ (m : BitVec 4) (a : AxisId), hasAxis m a = true →
        ((m &&& ~~~ axisBit a = 0 ↔ m = axisBit a) ∧ m &&& ~~~ axisBit a = m ^^^ axisBit a) := by decide
    have here := bits _ _ h2
    by_cases h3 : (s.group g).arrived = axisBit a
    · have := here.1.2 h3
      simp [h3]
    · have h4 : ¬ _ := fun q => h3 (here.1.1 q)
      rw [here.2] at h4 ⊢
      rw [if_neg h3]; exact congrArg _ (if_neg h4)

/-! ### Validation, requests and staging (R7, R10, R13) -/

theorem kind_cases (b : Byte) : (b = 0 ∨ 5 < b.toNat) ∨ b = 1 ∨ b = 2 ∨ b = 3 ∨ b = 4 ∨ b = 5 := by
  revert b; decide

theorem kindOf_of_unknown {b : Byte} (h : b = 0 ∨ 5 < b.toNat) : kindOf b = none := by
  revert h; revert b; decide

theorem isMark_eq (seg : Segment) : seg.isMark = decide (seg.kind = 5) := by
  unfold Segment.isMark; generalize seg.kind = b; revert b; decide

theorem periodLegal_iff (cfg : AxisConfig) (h : Nat) :
    periodLegal h cfg.d cfg.m cfg.tBoot = true ↔ LegalPeriod cfg h := by
  simp [periodLegal, LegalPeriod]; tauto

theorem dutyOver_iff (d : Legs Half) : dutyOver d = true ↔ DutyOver d := by
  simp [dutyOver, DutyOver, or_assoc]

/-- Validation answers the first check of Table 1-3 that fails (R10). -/
theorem validate_eq (s : State) (a : AxisId) (seg : Segment) :
    validate s a seg = failedCheckAt s a seg := by
  unfold validate failedCheckAt failedCheck
  have duty := fun d => propext (dutyOver_iff d)
  have legal := fun h => propext (periodLegal_iff (s.axis a).config h)
  rcases kind_cases seg.kind with h | h | h | h | h | h
  · simp only [kindOf_of_unknown h, if_pos h]
  all_goals
    simp only [h, duty, legal]
    simp [kindOf]

/-- The requests of a period are what `requested` says (R2, R6, R7). -/
theorem request_eq (x : Axis) (seg : Segment) (k : Nat) :
    x.request seg k = x.requested seg k x.shadowH := by
  have key : ∀ l, seg.compare k x.shadowH l = (requestedDuty seg k l * x.shadowH / 4096).toNat := by
    intro l
    unfold Segment.compare requestedDuty
    rcases kind_cases seg.kind with h | h | h | h | h | h
    · have h1 := kindOf_of_unknown h
      have h2 : seg.kind ≠ 1 := by rintro e; rw [e] at h; revert h; decide
      have h3 : seg.kind ≠ 2 := by rintro e; rw [e] at h; revert h; decide
      simp only [h1, if_neg h2, if_neg h3]
      simp
    all_goals simp [kindOf, h, compareOf, rampDuty]
    · norm_cast
    · generalize ((seg.dutyStart.get l).toNat : Int) +
        ((((seg.dutyEnd.get l).toNat : Int) - (seg.dutyStart.get l).toNat) * ((k : Int) + 1)).tdiv
          (seg.periods.toNat : Int) = z
      rcases Int.le_total 0 z with hz | hz
      · obtain ⟨n, rfl⟩ := Int.eq_ofNat_of_zero_le hz
        norm_cast
      · rw [Int.toNat_of_nonpos hz]
        have : z * x.shadowH / 4096 ≤ 0 := by
          have : z * (x.shadowH : Int) ≤ 0 := Int.mul_nonpos_of_nonpos_of_nonneg hz (by omega)
          omega
        simp [Int.toNat_of_nonpos this]
  have ov : seg.override = decide (seg.kind = 3) := by
    unfold Segment.override; generalize seg.kind = b; revert b; decide
  simp only [Axis.request, Axis.requested, key, ov]

/-- A staged head is what `withStaged` says (R8, R13). -/
theorem stage_eq (x : Axis) (seg : Segment) (rest : List Segment) :
    (x.popped rest).stage seg = x.withStaged seg rest := by
  simp only [Axis.stage, request_eq, Axis.withStaged, Axis.popped, Axis.requested]

/-! ### Trips (R33, R86, R95, R96) -/

/-- The reports one group makes when axis a trips (R86). -/
def breakReports (a : AxisId) (y : Group) : List Report :=
  if Breaks y a then ((axesOf y.arrived).filter (· ≠ a)).map (⟨·, .rdvBroken⟩) else []

theorem breakGroup_of_breaks {a : AxisId} {g : GroupId} {s : State} (h : Breaks (s.group g) a) :
    breakGroup a g s = { s.setGroup g (s.group g).broken with
      reports := s.reports ++ breakReports a (s.group g) } := by
  simp only [breakGroup, breakReports, if_pos h, h.1, h.2, decide_true, Bool.and_self, if_true, report]
  rfl

theorem breakGroup_of_not {a : AxisId} {g : GroupId} {s : State} (h : ¬ Breaks (s.group g) a) :
    breakGroup a g s = s := by
  have : (decide ((s.group g).state = .gathering) && hasAxis (s.group g).members a) = false := by
    simpa using h
  simp [breakGroup, this]

/-- What a list of groups does when axis a trips (R86, R87). -/
theorem breakGroups_list (a : AxisId) (l : List GroupId) (s : State) (hn : l.Nodup) :
    let t := l.foldl (fun s g => breakGroup a g s) s
    t = { s with groups := t.groups, reports := t.reports } ∧
      t.reports = s.reports ++ l.flatMap (fun g => breakReports a (s.group g)) ∧
      ∀ k, t.group k = if k ∈ l ∧ Breaks (s.group k) a then (s.group k).broken else s.group k := by
  induction l generalizing s with
  | nil => simp
  | cons g l ih =>
    obtain ⟨hg, hl⟩ := List.nodup_cons.mp hn
    rw [List.foldl_cons]
    obtain ⟨h1, h2, h3⟩ := ih (breakGroup a g s) hl
    by_cases hb : Breaks (s.group g) a
    · have he := breakGroup_of_breaks hb
      have hk : ∀ k ≠ g, (breakGroup a g s).group k = s.group k := fun k hk => by
        rw [he]; exact group_setGroup_ne s _ hk
      have hself : (breakGroup a g s).group g = (s.group g).broken := by
        rw [he]; exact group_setGroup_self s _ _
      refine ⟨?_, ?_, ?_⟩
      · rw [h1, he]; rfl
      · rw [h2, he, List.flatMap_cons, ← List.append_assoc]
        congr 1
        rw [← he]
        simp only [List.flatMap_def]
        refine congrArg _ (List.map_congr_left fun k hm => ?_)
        rw [hk k (fun e => hg (e ▸ hm))]
      · intro k
        rw [h3]
        by_cases e : k = g
        · subst e; rw [hself]; simp [hg, hb]
        · rw [hk k e]; simp [e]
    · rw [breakGroup_of_not hb] at h1 h2 h3 ⊢
      refine ⟨h1, ?_, ?_⟩
      · rw [h2, List.flatMap_cons, breakReports, if_neg hb, List.nil_append]
      · intro k
        rw [h3]
        by_cases e : k = g
        · subst e; simp [hg, hb]
        · simp [e]

/-- What the groups do when axis a trips (R86, R87). -/
theorem breakGroups_eq (a : AxisId) (s : State) : breakGroups a s = { s with
    groups := Vector.ofFn fun g => if Breaks (s.group g) a then (s.group g).broken else s.group g
    reports := s.reports ++ groupIds.flatMap fun g => if Breaks (s.group g) a then
      ((axesOf (s.group g).arrived).filter (· ≠ a)).map (⟨·, .rdvBroken⟩) else [] } := by
  obtain ⟨h1, h2, h3⟩ := breakGroups_list a groupIds s (by decide)
  unfold breakGroups
  rw [h1, h2]
  have : (groupIds.foldl (fun s g => breakGroup a g s) s).groups =
      Vector.ofFn fun g => if Breaks (s.group g) a then (s.group g).broken else s.group g := by
    apply Vector.ext
    intro i hi
    have hm : (⟨i, hi⟩ : GroupId) ∈ groupIds := by revert i; decide
    have := h3 ⟨i, hi⟩
    simp only [hm, true_and] at this
    rw [Vector.getElem_ofFn, ← this]
    rfl
  rw [this]
  rfl

/-- The completions of a trip are those R33 lists. -/
theorem tripCompletions_eq (s : State) (a : AxisId) (c : TripCause) :
    tripCompletions s a c = trippedRecords s a c := by
  unfold tripCompletions trippedRecords
  simp only [validate_eq]
  rcases (s.axis a).fifo with _ | ⟨seg, rest⟩
  · rfl
  · dsimp only
    cases c <;> cases failedCheckAt s a seg <;> rfl

/-- The trip of an active axis is what `trippedAt` says (R96). -/
theorem tripAxis_eq (a : AxisId) (c : TripCause) (s : State) : tripAxis a c s = trippedAt a c s := by
  unfold tripAxis trippedAt
  rw [tripCompletions_eq]
  simp only [breakGroups_eq]
  unfold handOff handedOver
  by_cases h1 : s.comp.ringSize = 0
  · simp only [h1, markStale, State.setAxis, if_true]; rfl
  · by_cases h2 : s.part = .failed
    · simp only [h1, h2, markStale, State.setAxis, if_true, if_false, releaseReservations]; rfl
    · simp only [h1, h2, markStale, State.setAxis, if_false]; rfl

/-- A report taken does what `reportTaken` says (R95, R100, R115). -/
theorem takeReport_eq (r : Report) (s : State) : takeReport r s = reportTaken r.axis r.cause s := by
  unfold takeReport reportTaken
  by_cases hl : s.live = true
  · have h := live_iff.mp hl
    simp only [hl, h.1, h.2, tripAxis_eq]
    rcases hs : (s.axis r.axis).state
    case tripped => simp; rw [← hs]; rfl
    all_goals simp
  · have h : s.resetLow = true ∨ s.part = .resetting := by
      rw [live_iff] at hl; by_contra q; simp at q; exact hl q
    simp only [hl]
    rcases h with h | h <;> simp [h]

/-- A report in flight, or one of the world's, is taken (R95). -/
theorem takeAxisReport_of_live {s : State} (r : Report) (h : s.live = true) :
    takeAxisReport r s = reportTaken r.axis r.cause { s with reports := s.reports.erase r } := by
  simp [takeAxisReport, h, takeReport_eq]

theorem takeAxisReport_of_reset {s : State} (r : Report) (h : s.live = false) :
    takeAxisReport r s = s := by simp [takeAxisReport, h]

/-- A part of an event that makes no report leaves those in flight. -/
theorem takingOwn_of_none {f : State → State} {s : State}
    (h : (f { s with reports := [] }).reports = []) :
    takingOwn f s = { f { s with reports := [] } with reports := s.reports } := by
  simp [takingOwn, h]

/-- A part of an event that makes one report takes it at its instant. -/
theorem takingOwn_of_one {f : State → State} {s u : State} {a : AxisId} {c : TripCause}
    (h : f { s with reports := [] } = report c [a] u) (hu : u.reports = []) :
    takingOwn f s = reportTaken a c { u with reports := s.reports } := by
  simp [takingOwn, h, report, hu, takeReport_eq]

/-! ### Releases and what a group has sent (R26, R27, R90) -/

theorem takeRelease_of_none {s : State} {a : AxisId} (h : (s.axis a).releaseSent = false) :
    takeRelease a s = s := by simp [takeRelease, h]

theorem endedOk_modAxis (a b : AxisId) (seg : Segment) (n : Nat) (st : Stats) (s : State)
    (f : Axis → Axis) : (endedOk a seg n st s).modAxis b f = endedOk a seg n st (s.modAxis b f) := by
  by_cases h1 : seg.quiet = true
  · simp only [endedOk, h1, if_true]; rfl
  · by_cases h2 : s.comp.ringSize = 0
    · simp [endedOk, handedOver, h1, h2]
    · by_cases h3 : s.part = .failed
      · simp only [endedOk, handedOver, h1, h2, h3, modAxis_comp, modAxis_part, if_false, if_true]; rfl
      · simp only [endedOk, handedOver, h1, h2, h3, modAxis_comp, modAxis_part, if_false]; rfl

/-- An end of a segment that is OK leaves every axis. -/
@[simp] theorem endedOk_axis (a b : AxisId) (seg : Segment) (n : Nat) (st : Stats) (s : State) :
    (endedOk a seg n st s).axis b = s.axis b := by
  unfold endedOk handedOver
  split
  · rfl
  · split
    · rfl
    · split <;> rfl

theorem endedOk_setAxis (a b : AxisId) (seg : Segment) (n : Nat) (st : Stats) (s : State) (x : Axis) :
    (endedOk a seg n st s).setAxis b x = endedOk a seg n st (s.setAxis b x) :=
  endedOk_modAxis a b seg n st s fun _ => x

theorem modAxis_eq (s : State) (a : AxisId) (f : Axis → Axis) :
    s.modAxis a f = s.setAxis a (f (s.axis a)) := rfl

/-- A release that does not let the examination resume is what `withRelease` says (R26, R27). -/
theorem takeRelease_eq {s : State} {a : AxisId} (h : ReleaseOnItsWay (s.axis a)) :
    takeRelease a s = withRelease a s := by
  obtain ⟨ha, hr, harr, seg, rest, hf, hk⟩ := h
  obtain ⟨g, hg⟩ := Option.ne_none_iff_exists'.mp harr
  unfold takeRelease withRelease
  by_cases hm : seg.kind = 5 <;> by_cases hw : (s.axis a).state = .waitRdv <;>
    simp only [hr, hg, hf, ha, hm, hw, isMark_eq, completeMark, completeOk_eq, stageHead, modAxis_eq,
      axis_setAxis_self, setAxis_setAxis, Axis.popped, noStats, Stats.zero, endedOk_axis, endedOk_setAxis,
      decide_true, decide_false, Bool.not_true, Bool.false_eq_true, if_true, if_false]
  · rcases hk hm with h | h | h
    · exact absurd h hw
    · rw [if_neg (by simpa using h)]
    · subst h
      split <;> rfl
  · rw [← stage_eq]; rfl

/-- With nothing of its group on the way a stop finds the state as it is (R90). -/
theorem finishGroup_of_none {s : State} {a : AxisId} (hr : (s.axis a).releaseSent = false)
    (h : groupReports s a = []) : finishGroup a s = s := by
  have hf : s.reports.filter (fun r => r.axis == a && (r.cause == .rdvTimeout || r.cause == .rdvBroken)) =
      [] := by
    rw [← h]; unfold groupReports; congr 1; funext r
    simp only [Bool.decide_and, Bool.decide_or]; rfl
  have none' : takeRelease a { s with reports := [] } = { s with reports := [] } := takeRelease_of_none hr
  unfold finishGroup takeInFlight
  simp only [hf, List.length_nil, takeInOrder]
  rw [takingOwn_of_none (by rw [none']), none']

/-! ### The instant of a peak -/

/-- The sample a peak asks for leaves the axis as it was but for its carrier and, when it is skipped, the
count of skips (R61, R120). -/
theorem axis_peakSampled (a : AxisId) (s : State) : ∃ act : Option ActiveSegment,
    act.map (fun g => (g.seg, g.index)) = (s.axis a).active.map (fun g => (g.seg, g.index)) ∧
    (peakSampled a s).axis a =
      { s.axis a with carrierCount := (s.axis a).workH, rising := false, active := act } := by
  unfold peakSampled axisRequest
  split
  · exact ⟨(s.axis a).active, rfl, by simp⟩
  split
  · exact ⟨(s.axis a).active.map (·.countSkip), by cases (s.axis a).active <;> rfl, by simp [State.modAxis]⟩
  · exact ⟨(s.axis a).active, rfl, by
      show (s.setAxis a _).axis a = _
      simp⟩

/-- A peak of a carrier that rises to it is the sample and the sequencer's peak work (R46, R61). -/
theorem peakEvent_eq {s : State} {a : AxisId} (hl : s.live = true) (ha : s.activeAxis a = true)
    (hr : (s.axis a).rising = true) :
    peakEvent a s = takingOwn (sequencerPeak a) (peakSampled a s) := by
  unfold peakEvent State.carrierRuns
  simp only [hl, ha, hr]
  simp
  rfl

end Sys2Proof.Machine
end

