-- ==== Sys2Proof/Laws/Frames.lean ====
section
/-! SUPPORT. What the axis side of an event leaves alone: the sequencers, the rendezvous unit, the
protection unit and the measurement unit's axis part change axes, groups, the request queue, the pending
completions and their reservations, the interrupt causes and the reports, and nothing else. -/

namespace Sys2Proof.Machine

/-- `t` agrees with `s` on all that the axis side of an event leaves alone. -/
structure AxisSide (s t : State) : Prop where
  part : t.part = s.part
  resetLow : t.resetLow = s.resetLow
  imask : t.imask = s.imask
  fsum : t.fsum = s.fsum
  timebase : t.timebase = s.timebase
  subTick : t.subTick = s.subTick
  busRead : t.busRead = s.busRead
  gates : t.gates = s.gates
  emergency : t.emergency = s.emergency
  ovFlag : t.ovFlag = s.ovFlag
  uvFlag : t.uvFlag = s.uvFlag
  globals : t.globals = s.globals
  admin : t.admin = s.admin
  readTxn : t.readTxn = s.readTxn
  writeTxn : t.writeTxn = s.writeTxn
  arbiter : t.arbiter = s.arbiter
  pending : t.pending = s.pending
  ovRun : t.meas.ovRun = s.meas.ovRun
  uvRun : t.meas.uvRun = s.meas.uvRun
  busTimer : t.meas.busTimer = s.meas.busTimer
  ringBase : t.comp.ringBase = s.comp.ringBase
  ringSize : t.comp.ringSize = s.comp.ringSize
  producer : t.comp.producer = s.comp.producer
  lap : t.comp.lap = s.comp.lap
  consumer : t.comp.consumer = s.comp.consumer
  coalescingCount : t.comp.coalescingCount = s.comp.coalescingCount
  coalescingTimer : t.comp.coalescingTimer = s.comp.coalescingTimer

namespace AxisSide

theorem refl (s : State) : AxisSide s s := by constructor <;> rfl

theorem trans {s t u : State} (h : AxisSide s t) (k : AxisSide t u) : AxisSide s u := by
  constructor
  · exact k.part.trans h.part
  · exact k.resetLow.trans h.resetLow
  · exact k.imask.trans h.imask
  · exact k.fsum.trans h.fsum
  · exact k.timebase.trans h.timebase
  · exact k.subTick.trans h.subTick
  · exact k.busRead.trans h.busRead
  · exact k.gates.trans h.gates
  · exact k.emergency.trans h.emergency
  · exact k.ovFlag.trans h.ovFlag
  · exact k.uvFlag.trans h.uvFlag
  · exact k.globals.trans h.globals
  · exact k.admin.trans h.admin
  · exact k.readTxn.trans h.readTxn
  · exact k.writeTxn.trans h.writeTxn
  · exact k.arbiter.trans h.arbiter
  · exact k.pending.trans h.pending
  · exact k.ovRun.trans h.ovRun
  · exact k.uvRun.trans h.uvRun
  · exact k.busTimer.trans h.busTimer
  · exact k.ringBase.trans h.ringBase
  · exact k.ringSize.trans h.ringSize
  · exact k.producer.trans h.producer
  · exact k.lap.trans h.lap
  · exact k.consumer.trans h.consumer
  · exact k.coalescingCount.trans h.coalescingCount
  · exact k.coalescingTimer.trans h.coalescingTimer

/-- A state that differs in the axis side's own fields alone. -/
theorem mk' (s : State) (axes : Vector Axis 4) (groups : Vector Group 8) (queue : List ConvRequest)
    (elapsed : Nat) (completions : List Completion) (reservations : Nat) (icause : BitVec 6)
    (reports : List Report) (freeCount : Nat) :
    AxisSide s { s with
      axes := axes, groups := groups, meas := { s.meas with queue := queue, elapsed := elapsed }
      comp := { s.comp with queue := completions, reservations := reservations }
      icause := icause, reports := reports, freeCount := freeCount } := by
  constructor <;> rfl

/-! ### The small operations -/

theorem setAxis (s : State) (a : AxisId) (x : Axis) : AxisSide s (s.setAxis a x) := by
  constructor <;> rfl

theorem modAxis (s : State) (a : AxisId) (f : Axis → Axis) : AxisSide s (s.modAxis a f) :=
  setAxis s a _

theorem setGroup (s : State) (g : GroupId) (x : Group) : AxisSide s (s.setGroup g x) := by
  constructor <;> rfl

theorem markStale (s : State) (a : AxisId) : AxisSide s (markStale a s) := by
  constructor <;> rfl

theorem report (s : State) (c : TripCause) (l : List AxisId) : AxisSide s (report c l s) := by
  constructor <;> rfl

theorem raise (s : State) (c : Cause) : AxisSide s (raise c s) := by
  constructor <;> rfl

theorem releaseReservations (s : State) (n : Nat) : AxisSide s (releaseReservations n s) := by
  constructor <;> rfl

theorem handOff (s : State) (cs : List Completion) : AxisSide s (handOff cs s) := by
  unfold Machine.handOff
  split
  · exact refl s
  · split
    · exact releaseReservations s _
    · constructor <;> rfl

theorem completeOk (s : State) (a : AxisId) (seg : Segment) (n : Nat) (st : Stats) :
    AxisSide s (completeOk a seg n st s) := by
  unfold Machine.completeOk
  split
  · exact releaseReservations s 1
  · exact handOff s _

/-! ### The rendezvous unit -/

theorem sendReleases (l : List AxisId) (s : State) :
    AxisSide s (l.foldl (fun s b => sendRelease b s) s) := by
  induction l generalizing s with
  | nil => exact refl s
  | cons b l ih => exact (modAxis s b _).trans (ih _)

theorem arrive (s : State) (a : AxisId) (g : GroupId) : AxisSide s (arrive a g s).1 := by
  unfold Machine.arrive
  simp only
  split
  · exact refl s
  all_goals
    split
    · exact (setGroup s g _).trans (sendReleases _ _)
    · exact setGroup s g _

theorem depart (s : State) (a : AxisId) : AxisSide s (depart a s) := by
  unfold Machine.depart
  split
  · exact refl s
  · simp only
    split
    · exact setGroup s _ _
    · exact refl s

theorem breakGroup (s : State) (a : AxisId) (g : GroupId) : AxisSide s (breakGroup a g s) := by
  unfold Machine.breakGroup
  simp only
  split
  · exact (setGroup s g _).trans (report _ _ _)
  · exact refl s

theorem breakGroups (s : State) (a : AxisId) : AxisSide s (breakGroups a s) := by
  unfold Machine.breakGroups
  generalize groupIds = l
  induction l generalizing s with
  | nil => exact refl s
  | cons g l ih => exact (breakGroup s a g).trans (ih _)

theorem groupTimeout (s : State) (g : GroupId) : AxisSide s (groupTimeout g s) := by
  unfold Machine.groupTimeout
  simp only
  split
  · exact (setGroup s g _).trans (report _ _ _)
  · exact refl s

/-! ### The sequencer -/

theorem completeMark (s : State) (a : AxisId) (seg : Segment) (rest : List Segment) :
    AxisSide s (completeMark a seg rest s) := (modAxis s a _).trans (completeOk _ _ _ _ _)

theorem stageHead (s : State) (a : AxisId) (seg : Segment) (rest : List Segment) :
    AxisSide s (stageHead a seg rest s) := modAxis s a _

theorem examine (a : AxisId) (l : List Segment) (s : State) : AxisSide s (examine a l s) := by
  induction l generalizing s with
  | nil => exact refl s
  | cons seg rest ih =>
    unfold Machine.examine
    split
    · exact report s _ _
    · split
      · have h := arrive s a seg.groupId
        split
        · next s' he => rw [he] at h; exact h.trans (modAxis _ _ _)
        · next s' he => rw [he] at h; exact h.trans (report _ _ _)
        · next s' he =>
          rw [he] at h
          split
          · exact h.trans ((completeMark _ _ _ _).trans (ih _))
          · exact h.trans (stageHead _ _ _ _)
      · split
        · exact (completeMark _ _ _ _).trans (ih _)
        · exact stageHead _ _ _ _

theorem stagingPoint (s : State) (a : AxisId) : AxisSide s (stagingPoint a s) := by
  unfold Machine.stagingPoint
  simp only
  split
  · exact examine _ _ _
  · exact refl s

theorem takeRelease (s : State) (a : AxisId) : AxisSide s (takeRelease a s) := by
  unfold Machine.takeRelease
  simp only
  split
  · exact refl s
  · split
    · have h := (setAxis s a { s.axis a with releaseSent := false }).trans
        (modAxis _ a ({ · with arrival := none }))
      split
      · split
        · exact h.trans ((completeMark _ _ _ _).trans (modAxis _ _ _))
        · exact h.trans (modAxis _ _ _)
      · split
        · split
          · split
            · exact h.trans ((completeMark _ _ _ _).trans (examine _ _ _))
            · exact h.trans (completeMark _ _ _ _)
          · exact h.trans (stageHead _ _ _ _)
        · exact setAxis s a _
    · exact setAxis s a _

theorem sequencerPeak (s : State) (a : AxisId) : AxisSide s (sequencerPeak a s) := by
  unfold Machine.sequencerPeak
  simp only
  split
  · split
    · split
      · exact modAxis _ _ _
      · exact stagingPoint _ _
    · exact refl s
  · split
    · exact stagingPoint _ _
    · exact refl s
  · exact stagingPoint _ _
  · split
    · exact (stageHead _ _ _ _).trans (modAxis _ _ _)
    · exact refl s
  all_goals exact refl s

theorem pendingStopEffect (s : State) (a : AxisId) (tag : Half) :
    AxisSide s (pendingStopEffect a tag s) :=
  (depart s a).trans ((setAxis _ a _).trans ((markStale _ a).trans (handOff _ _)))

theorem immediateStop (s : State) (a : AxisId) (tag : Half) : AxisSide s (immediateStop a tag s) :=
  (depart s a).trans ((setAxis _ a _).trans ((markStale _ a).trans (handOff _ _)))

theorem runEnd (s : State) (a : AxisId) : AxisSide s (runEnd a s) :=
  (setAxis s a _).trans ((markStale _ a).trans (handOff _ _))

theorem graceStep (s : State) (a : AxisId) : AxisSide s (graceStep a s) := by
  unfold Machine.graceStep
  dsimp only
  generalize (if (s.axis a).state = .starved then (s.axis a).grace + 1 else 0) = grace
  split
  · exact (setAxis s a _).trans (report _ _ _)
  · exact setAxis s a _

theorem boundaryCases (s : State) (a : AxisId) : AxisSide s (boundaryCases a s) := by
  unfold Machine.boundaryCases
  simp only
  split
  · exact pendingStopEffect _ _ _
  · exact setAxis _ _ _
  · split
    · exact setAxis _ _ _
    · split
      · exact runEnd _ _
      · exact graceStep _ _

theorem closeActive (s : State) (a : AxisId) : AxisSide s (closeActive a s) := by
  unfold Machine.closeActive
  split
  · exact (modAxis _ _ _).trans (completeOk _ _ _ _ _)
  · exact refl s

theorem sequencerValley (s : State) (a : AxisId) : AxisSide s (sequencerValley a s) := by
  unfold Machine.sequencerValley
  simp only
  split
  · split
    · split
      · exact setAxis _ _ _
      · exact (closeActive _ _).trans (boundaryCases _ _)
    · exact boundaryCases _ _
  · split
    · exact boundaryCases _ _
    · split
      · exact pendingStopEffect _ _ _
      · exact setAxis _ _ _
  · exact boundaryCases _ _
  · exact boundaryCases _ _
  all_goals exact refl s

/-! ### The protection unit -/

theorem tripAxis (s : State) (a : AxisId) (c : TripCause) : AxisSide s (tripAxis a c s) := by
  unfold Machine.tripAxis
  refine trans (t := Machine.breakGroups a _) ?_ (raise _ _)
  refine trans ?_ (breakGroups _ a)
  exact (setAxis s a _).trans ((markStale _ a).trans (handOff _ _))

theorem takeReport (s : State) (r : Report) : AxisSide s (takeReport r s) := by
  unfold Machine.takeReport
  split
  · exact refl s
  · split
    · exact tripAxis _ _ _
    · exact tripAxis _ _ _
    · exact tripAxis _ _ _
    · exact tripAxis _ _ _
    · exact modAxis _ _ _
    · exact refl s

/-- The model's own bookkeeping of reports and choices. -/
theorem bookkeeping (s : State) (reports : List Report) (n : Nat) :
    AxisSide s { s with reports := reports, freeCount := n } := by
  constructor <;> rfl

theorem takeReportsUpTo (n : Nat) (s : State) : AxisSide s (takeReportsUpTo n s) := by
  induction n generalizing s with
  | zero => exact refl s
  | succ n ih =>
    unfold Machine.takeReportsUpTo
    split
    · exact refl s
    · exact (bookkeeping s _ _).trans ((takeReport _ _).trans (ih _))

theorem takeReports (s : State) : AxisSide s (takeReports s) := by
  unfold Machine.takeReports
  exact takeReportsUpTo _ s

theorem takeAxisReport (s : State) (r : Report) : AxisSide s (takeAxisReport r s) := by
  unfold Machine.takeAxisReport
  split
  · exact (bookkeeping s _ s.freeCount).trans (takeReport _ r)
  · exact refl s

theorem takeInFlight (s : State) (p : Report → Bool) : AxisSide s (takeInFlight p s) :=
  takeInOrder_keeps (P := AxisSide s) Machine.takeAxisReport
    (fun t n h => h.trans (bookkeeping t t.reports n)) (fun r t h => h.trans (takeAxisReport t r)) _ _ s
    (refl s)

/-- What an operation of the axis side leaves alone, it leaves alone with its own reports taken. -/
theorem takingOwn {f : State → State} (hf : ∀ s, AxisSide s (f s)) (s : State) :
    AxisSide s (takingOwn f s) := by
  have taken : ∀ (l : List Report) (t : State), AxisSide t (l.foldl (fun u r => Machine.takeReport r u) t) := by
    intro l
    induction l with
    | nil => exact refl
    | cons r l ih => exact fun t => (takeReport t r).trans (ih _)
  unfold Machine.takingOwn
  exact (bookkeeping s [] s.freeCount).trans ((hf _).trans
    ((bookkeeping _ s.reports _).trans (taken _ _)))

theorem finishGroup (s : State) (a : AxisId) : AxisSide s (finishGroup a s) :=
  (takeInFlight s _).trans (takingOwn (fun t => takeRelease t a) _)

/-! ### Whole events of an axis -/

theorem axisRequest (s : State) (a : AxisId) : AxisSide s (axisRequest a s) := by
  unfold Machine.axisRequest
  split
  · exact refl s
  split
  · exact modAxis _ _ _
  · constructor <;> first | rfl | (simp only [Measurement.join]; split <;> rfl)

theorem peakEvent (s : State) (a : AxisId) : AxisSide s (peakEvent a s) := by
  unfold Machine.peakEvent
  split
  · exact (modAxis s a _).trans ((axisRequest _ a).trans (takingOwn (fun t => sequencerPeak t a) _))
  · exact refl s

theorem takeValley (s : State) (a : AxisId) : AxisSide s (takeValley a s) := by
  unfold Machine.takeValley
  split
  · have h := (modAxis s a fun x => { x.account with carrierCount := 0, rising := true }).trans
      (takingOwn (fun t => sequencerValley t a) _)
    simp only
    split
    · exact h.trans (modAxis _ _ _)
    · exact h
  · exact refl s

theorem valleyEvent (s : State) (a : AxisId) : AxisSide s (valleyEvent a s) := by
  unfold Machine.valleyEvent
  split
  · split
    · exact (finishGroup s a).trans (takeValley _ a)
    · exact takeValley s a
  · exact refl s

theorem releaseEvent (s : State) (a : AxisId) : AxisSide s (releaseEvent a s) := by
  unfold Machine.releaseEvent
  split
  · exact takingOwn (fun t => takeRelease t a) s
  · exact refl s

theorem advanceCarrier (s : State) (a : AxisId) : AxisSide s (advanceCarrier s a) := by
  unfold Machine.advanceCarrier
  split
  · exact modAxis _ _ _
  · exact refl s

theorem processAxisResult (s : State) (a : AxisId) (u v : Nat) :
    AxisSide s (processAxisResult a u v s) := by
  unfold Machine.processAxisResult
  simp only
  split
  · exact (setAxis s a _).trans (takeReport _ _)
  · exact setAxis s a _

end AxisSide

end Sys2Proof.Machine
end

