-- ==== Sys2Proof/Tests/Slice0.lean ====
section
/-! SUPPORT. Tests: what the well-formedness check refuses, states that meet the hypotheses of the
statements, and small steps whose expected values come from the spec's own rules and worked tables. -/

namespace Sys2Proof.Tests

open Sys2Proof Sys2Proof.Machine

/-! ### Small states -/

/-- The state after one command. -/
def after (i : Instr) (s : State) : State :=
  match exec i s with
  | .next t => t
  | .fault f => nomatch f
  | .refused _ => s

/-- RUNNING with a completion ring of 16 and an administrative ring of 8 holding 4 commands. -/
def running : State :=
  { State.reset with
    part := .running
    comp := { CompletionUnit.reset with ringBase := 0x1000, ringSize := 16 }
    admin := { AdminUnit.reset with ringBase := 0x2000, ringSize := 8, producer := 4 } }

/-- The same, with the read of an administrative command outstanding. -/
def returning : State :=
  { running with
    comp := { running.comp with reservations := 1 }
    admin := { running.admin with state := .fetching }
    readTxn := some ⟨.admin, 0x2000, true, none⟩ }

/-- A record of one kind. -/
def record (tag : Half) (kind : Byte) (periods : Half) : Segment :=
  { tag := tag, kind := kind, endOk := false, quiet := false, rdv := false, group := 0, periods := periods
    dutyStart := ⟨1000, 2048, 4096⟩, dutyEnd := ⟨2000, 0, 4096⟩, newH := 0 }

/-- A record that waits for group 2. -/
def waiting (tag : Half) (kind : Byte) (periods : Half) : Segment :=
  { record tag kind periods with rdv := true, group := 2 }

/-- A configured axis with a ring of 8 that holds 3 records. -/
def idle : Axis :=
  { Axis.reset false with
    configured := true
    config := { AxisConfig.reset with h := 1000, d := 40, m := 30, np := 3, g := 2 }
    shadowH := 1000, workH := 1000
    ringBase := 0x4000, ringSize := 8, consumer := 2, producer := 5 }

/-- The axis in a state of the sequencer. -/
def inState (st : AxisState) : Axis := { idle with state := st }

/-- The axis in RUN, in period k of a HOLD of three periods. -/
def playing (k : Nat) : Axis :=
  { idle with state := .run, active := some ⟨record 0x30 1 3, k, .fresh⟩ }

/-- The axis TRIPPED by an underrun. -/
def tripped : Axis := { idle with state := .tripped, tripRecord := some ⟨.underrun, 77, 0⟩ }

/-- Group 2 with axes 0 and 1 as members and axis 1 arrived. -/
def gathering : Group :=
  { Group.reset with members := 0b0011, timeout := 50, state := .gathering, arrived := 0b0010
                     timer := some 9 }

/-- A state in which axis 0 stands as given. -/
def withAxis (x : Axis) : State := running.setAxis 0 x

/-- The same, with a command's read outstanding. -/
def returningAxis (x : Axis) : State := returning.setAxis 0 x

/-! ### Well-formedness -/

theorem test_wellformed_accepts :
    (Instr.axisReadReturn (encodeSegment (record 1 1 1))).wellFormed = true ∧
    (Instr.registerWriteIgnored 0x30 false).wellFormed = true ∧
    (Instr.registerWriteIgnored 0x04 true).wellFormed = true := by decide

theorem test_wellformed_refuses_short_axis_record :
    (Instr.axisReadReturn [1, 2, 3]).wellFormed = false := by decide

theorem test_wellformed_refuses_short_command_record :
    (Instr.adminReadReturn (zeroBytes 31)).wellFormed = false := by decide

theorem test_wellformed_refuses_offset_of_ctrl :
    (Instr.registerWriteIgnored 0x04 false).wellFormed = false := by decide

/-! ### Accesses to the register window (Table 12-8, R204) -/

theorem test_ctrl_word_soft_reset_decides :
    windowWriteRow 0x04 false 0b011 = .softReset true false ∧
    windowWriteRow 0x04 false 0b101 = .setEnable true ∧
    windowWriteRow 0x04 false 0b100 = .clearEnable true := by decide

theorem test_window_rows :
    windowWriteRow 0x14 false 9 = .producerIndexWrite (.axis 1) 9 ∧
    windowWriteRow 0x24 false 3 = .cconsWrite 3 ∧
    windowWriteRow 0x08 false 1 = .registerWriteIgnored 0x08 false ∧
    windowWriteRow 0x24 true 3 = .registerWriteIgnored 0x24 true := by decide

theorem test_table_word_spells_nothing :
    decodeTableWord 16 0x1234 = none ∧ (State.reset.withFetchWord 16 0x1234) = State.reset := by decide

/-! ### The records, byte by byte (Tables 12-1 to 12-4) -/

/-- A RAMP of 4 periods with END_OK and RDV at group 5, written out from Table 12-1. -/
theorem test_segment_bytes :
    decodeSegment [0x34, 0x12, 0x02, 0x05, 0x05, 0xFF, 0x04, 0x00, 0xE8, 0x03, 0x00, 0x08, 0x00, 0x10,
        0xD0, 0x07, 0x01, 0x00, 0x02, 0x00, 0x2C, 0x01, 0, 0, 0, 0, 0, 0, 0, 0, 0, 0] =
      { tag := 0x1234, kind := 2, endOk := true, quiet := false, rdv := true, group := 5, periods := 4
        dutyStart := ⟨1000, 2048, 4096⟩, dutyEnd := ⟨2000, 1, 2⟩, newH := 300 } := by decide

/-- A START_AXIS of axis 3 and an opcode that names no command, written out from Table 12-3. -/
theorem test_command_bytes :
    decodeCommand ([0x01, 0x0A, 0x05, 0x00, 0x03] ++ zeroBytes 27) = ⟨0x0A01, .startAxis 3⟩ ∧
    decodeCommand ([0x01, 0x0A, 0x33, 0x00, 0x03] ++ zeroBytes 27) = ⟨0x0A01, .unknown 0x33⟩ := by decide

/-- The refused STOP_AXIS with tag 0x0A02 in slot 1 of a first lap, from Tables 12-4 and 12-5. -/
theorem test_completion_bytes :
    completionBytes true (refusedCompletion 0x0A02 .stopPending) =
      [0x02, 0x0A, 0x84, 0x05, 0x26, 0, 0, 0, 0, 0, 0, 0, 0, 0, 0, 0] := by decide

/-! ### Arithmetic of the tables -/

/-- R6, R7: a ramp from 1000 to 1010 over 4 periods asks for duties 1002, 1005, 1007 and 1010. -/
theorem test_ramp_duties :
    [0, 1, 2, 3].map (fun k => rampDuty 1000 1010 k 4) = [1002, 1005, 1007, 1010] ∧
    [0, 1, 2, 3].map (fun k => rampDuty 1010 1000 k 4) = [1008, 1005, 1003, 1000] := by decide

/-- Table 3-3, rows 3, 5, 9 and 12: D = 40, M = 30, T_boot = 200. -/
theorem test_derived_compares :
    let cfg := { AxisConfig.reset with h := 1000, d := 40, m := 30, tBoot := 200 }
    deriveCompare 1000 cfg false 30 = ⟨0, false⟩ ∧ deriveCompare 1000 cfg false 975 = ⟨1000, false⟩ ∧
    deriveCompare 1000 cfg true 975 = ⟨880, true⟩ ∧ deriveCompare 150 cfg true 100 = ⟨0, true⟩ := by decide

/-! ### The nine administrative commands -/

theorem test_set_completion_ring_posts_first_on_new_ring :
    let t := after (.setCompletionRing 1 0x8000 64) returning
    t.comp.ringBase = 0x8000 ∧ t.comp.ringSize = 64 ∧ t.comp.reservations = 1 + 1 ∧
      t.writeTxn.map (·.address) = some 0x8000 := by decide

theorem test_set_completion_ring_busy :
    (after (.setCompletionRing 1 0x8000 64) (returningAxis (playing 0))).comp.queue =
      [refusedCompletion 1 .ringBusy] := by decide

theorem test_set_global_values :
    (after (.setGlobal 1 9 8 2 3 7 4000 10) returning).globals = ⟨9, 8, 2, 7, 4000, 10, 3⟩ := by decide

theorem test_set_global_k_zero_is_invalid :
    (after (.setGlobal 1 9 8 0 3 7 4000 10) returning).comp.queue = [invalidCompletion 1] := by decide

theorem test_set_axis_ring_empties :
    let x := (after (.setAxisRing 1 0 0x9000 16) (returningAxis idle)).axis 0
    (x.ringBase, x.ringSize, x.consumer, x.producer) = (0x9000, 16, 0, 0) := by decide

theorem test_set_axis_ring_wrong_state :
    (after (.setAxisRing 1 0 0x9000 16) (returningAxis tripped)).comp.queue =
      [refusedCompletion 1 .wrongState] := by decide

theorem test_configure_axis_half_period :
    let x := (after (.configureAxis 1 0 40 30 16 1000 200 4 2 1500 3 1) (returningAxis idle)).axis 0
    (x.config.h, x.workH, x.config.np, x.config.pattern) = (1000, 1000, 4, .lowOn) := by decide

/-- Table 3-5, condition 5: D + M must lie below H. -/
theorem test_configure_axis_illegal_sum :
    (after (.configureAxis 1 0 40 60 16 100 200 4 2 1500 3 1) (returningAxis idle)).comp.queue =
      [invalidCompletion 1] := by decide

theorem test_start_axis_result_carries_ring :
    (after (.startAxis 1 0) (returningAxis idle)).comp.queue = [okCompletion 1 (.startAxis 2 3)] ∧
    ((after (.startAxis 1 0) (returningAxis idle)).axis 0).state = .precharge := by decide

theorem test_start_axis_bus_fault :
    (after (.startAxis 1 0) { returningAxis idle with uvFlag := true }).comp.queue =
      [refusedCompletion 1 .busFault] := by decide

/-- R36, R43: the stop is pending, and a trip that was in flight then completes it TRIPPED. -/
theorem test_stop_axis_pending :
    let t := after (.stopAxis 0x0A01 0 0)
      { returningAxis (playing 1) with reports := [⟨0, .rdvTimeout⟩] }
    (t.axis 0).pendingStop = some 0x0A01 ∧ t.comp.queue = [] ∧ t.admin.current = none ∧
      (after (.axisTrip 0 .rdvTimeout) t).comp.queue.map (fun c => (c.tag, c.status)) =
        [(0x30, .tripped), (0x0A01, .tripped)] := by decide

/-- R40: the order of the completions of an IMMEDIATE stop that pre-empts a pending one. -/
theorem test_stop_axis_immediate_order :
    (after (.stopAxis 0x0A02 0 1) (returningAxis { playing 1 with
      pendingStop := some 0x0A01, fifo := [record 0x31 1 1] })).comp.queue.map
        (fun c => (c.tag, c.status, c.detail)) =
      [(0x30, .aborted, .none), (0x31, .flushed, .none), (0x0A01, .ok, .preempted),
       (0x0A02, .ok, .none)] := by decide

theorem test_clear_fault_flush_skips :
    let t := after (.clearFault 1 0 1) (returningAxis tripped)
    (t.axis 0).state = .idle ∧ (t.axis 0).consumer = 5 ∧
      t.comp.queue = [⟨1, .admin, .ok, .trip .underrun, .admin (.clearFault 77 0 3)⟩] := by decide

theorem test_clear_fault_pin_active :
    (after (.clearFault 1 0 0) (returningAxis { tripped with pinActive := true })).comp.queue =
      [refusedCompletion 1 .tripActive] := by decide

theorem test_define_group_mends_broken :
    let s := returning.setGroup 2 { Group.reset with members := 1, state := .broken, generation := 6 }
    let t := after (.defineGroup 1 2 0xF3 50) s
    t.group 2 = { members := 3, timeout := 50, state := .idle, arrived := 0, generation := 6, timer := none } ∧
      t.comp.queue = [okCompletion 1 (.defineGroup .broken 6)] := by decide

theorem test_define_group_busy :
    (after (.defineGroup 1 2 3 50) (returning.setGroup 2 gathering)).comp.queue =
      [⟨1, .admin, .refused, .groupBusy, .admin (.defineGroup .gathering 0)⟩] := by decide

theorem test_read_axis_claims_write_channel :
    let t := after (.readAxis 1 0 0xA000) (returningAxis (playing 1))
    t.admin.state = .executing ∧ t.writeTxn.map (fun w => (w.kind, w.address)) = some (.snapshot, 0xA000) ∧
      (t.writeTxn.map fun w => w.data.take 8) = some [2, 0, 2, 0, 1, 0, 0, 0] := by decide

/-! ### Registers and inputs -/

theorem test_set_enable_starts_bus_timer :
    let t := after (.setEnable false) State.reset
    t.part = .running ∧ t.meas.busTimer = some 10 := by decide

theorem test_clear_enable_quiesces_at_once :
    let t := after (.clearEnable false) running
    t.part = .disabled ∧ t.icause = 0b010000 := by decide

theorem test_soft_reset_gives_untimed_read_255 :
    let t := after (.softReset true true) returning
    t.part = .resetting ∧ t.readTxn.bind (·.counter) = some 255 := by decide

theorem test_admin_restart :
    (after (.adminRestart true) { running with admin := { running.admin with
      state := .halted, haltReason := .fetchFault, producer := 0 } }).admin.state = .waiting := by decide

theorem test_admring_code_4 :
    let t := after (.admringWrite 0x00012344) State.reset
    t.admin.ringBase = 0x00012340 ∧ t.admin.ringSize = 16 := by decide

theorem test_producer_index_retraction :
    (after (.producerIndexWrite (.axis 0) 4) (withAxis idle)).fsum = 0x4000 ∧
    ((after (.producerIndexWrite (.axis 0) 1) (withAxis idle)).axis 0).producer = 1 := by decide

theorem test_ccons_may_not_pass :
    let s := { running with comp := { running.comp with producer := 3, consumer := 1 } }
    (after (.cconsWrite 4) s).fsum = 0x4000 ∧ (after (.cconsWrite 3) s).comp.consumer = 3 := by decide

theorem test_icause_and_imask :
    (after (.icauseWrite 0b000101) { running with icause := 0b000111 }).icause = 0b000010 ∧
    (after (.imaskWrite 0xFFFFFFFF) running).imask = 0b111111 := by decide

/-- R189, R198: a byte read at 31h returns the summary's second byte and clears the whole summary. -/
theorem test_fsum_read_clears :
    let t := after (.fsumRead 0 .word) { running with fsum := 0x8001 }
    let u := after (.fsumRead 1 .byte) { running with fsum := 0x8001 }
    t.busRead = 0x8001 ∧ t.fsum = 0 ∧ u.busRead = 0x80 ∧ u.fsum = 0 := by decide

theorem test_ignored_write_records_register :
    let t := after (.registerWriteIgnored 0x08 false) running
    t.fsum = 0x8000 ∧ t.icause = 0b000100 := by decide

theorem test_pin_trips_active_axis :
    ((after (.tripPinActive 0) (withAxis (playing 1))).axis 0).state = .tripped ∧
    ((after (.tripPinActive 0) (withAxis idle)).axis 0).state = .idle := by decide

theorem test_pin_inactive_keeps_trip :
    let x := (after (.tripPinInactive 0) (withAxis { tripped with pinActive := true })).axis 0
    x.pinActive = false ∧ x.state = .tripped := by decide

/-- R104: the emergency input decides before the axis state and the working compare. -/
theorem test_emergency_demand :
    legDemand { withAxis (playing 1) with emergency := true } 0 .u = .neither ∧
    legDemand (withAxis (playing 1)) 0 .u = .low := by decide

/-- R105: a TRIPPED axis whose pattern is LOW_ON demands its low sides again. -/
theorem test_emergency_inactive_low_on :
    (((after .emergencyInactive { withAxis { tripped with config := { idle.config with pattern := .lowOn } }
      with emergency := true }).gate 0 .v).demand) = .low := by decide

theorem test_pin_reset_follows_pins :
    let t := after .pinReset (withAxis { idle with pinActive := true })
    t.part = .disabled ∧ (t.axis 0).pinActive = true ∧ (t.axis 0).ringSize = 0 := by decide

theorem test_reset_release_zeroes_timebase :
    (after .resetRelease { State.reset with resetLow := true, timebase := 5 }).timebase = 0 := by decide

/-! ### Axes -/

/-- Table 1-4's staging: the first compares of a HOLD at H = 1000 are 244, 500 and 1000. -/
theorem test_peak_stages_head :
    let x := (after (.carrierPeak 0) (withAxis { playing 2 with fifo := [record 0x31 1 1] })).axis 0
    x.staged = some (record 0x31 1 1) ∧ x.fifo = [] ∧ x.shadow = ⟨244, 500, 1000⟩ := by decide

/-- R11: the failing head completes INVALID in its place. -/
theorem test_peak_bad_segment :
    (after (.carrierPeak 0) (withAxis { playing 2 with fifo := [record 0x31 9 1] })).comp.queue.map
      (fun c => (c.tag, c.status, c.detail)) =
      [(0x30, .tripped, .trip .badSegment), (0x31, .invalid, .badKind)] := by decide

theorem test_valley_counts_period :
    ((after (.carrierValley 0) (withAxis { playing 0 with rising := false })).axis 0).active.map (·.index) =
      some 1 := by decide

/-- R31: with G = 2 the second starved valley trips the axis. -/
theorem test_valley_underrun :
    ((after (.carrierValley 0) (withAxis { inState .starved with grace := 0, rising := false })).axis 0).state =
      .starved ∧
    ((after (.carrierValley 0) (withAxis { inState .starved with grace := 1, rising := false })).axis 0).state =
      .tripped := by decide

theorem test_trip_record_and_cause :
    let t := after (.axisTrip 0 .overcurrent) { withAxis (playing 1) with timebase := 123 }
    (t.axis 0).tripRecord = some ⟨.overcurrent, 123, 0⟩ ∧ t.icause = 0b000010 := by decide

/-- R203: cause code 0Ch is bit 11 of the later-cause set. -/
theorem test_later_cause_bit :
    ((after (.axisTrip 0 .postFault) (withAxis tripped)).axis 0).tripRecord =
      some ⟨.underrun, 77, 0x0800⟩ := by decide

theorem test_release_in_wait_rdv_marks :
    let x := (after (.releaseTaken 0) (withAxis { inState .waitRdv with
      arrival := some 2, releaseSent := true, fifo := [waiting 0x31 1 1] })).axis 0
    x.released = true ∧ x.arrival = none ∧ x.fifo.length = 1 := by decide

theorem test_crossing_ends_high_demand :
    ((after (.carrierCrossing 0 .u) (withAxis { playing 1 with
      carrierCount := 299, work := ⟨300, 0, 0⟩ })).gate 0 .u).demand = .low := by decide

theorem test_dead_time_turns_switch_on :
    let s := (withAxis { playing 1 with work := ⟨300, 0, 0⟩ })
    let s' := { s with gates := s.gates.set 0 ⟨⟨.high, 1⟩, ⟨.low, 0⟩, ⟨.low, 0⟩⟩ }
    switchOn s' 0 .u .high = false ∧ switchOn (after (.deadTimeElapsed 0 .u) s') 0 .u .high = true := by decide

/-! ### Timers, the converter and the port -/

/-- R85, R95: the group breaks at once, the arrived axis trips as it takes its report. -/
theorem test_rdv_timeout_breaks_group :
    let s := (running.setGroup 2 gathering).setAxis 1 { inState .waitRdv with
      arrival := some 2, fifo := [waiting 0x31 1 1] }
    let t := after (.rdvTimerExpiry 2) s
    (t.group 2).state = .broken ∧ t.reports = [⟨1, .rdvTimeout⟩] ∧ (t.axis 1).state = .waitRdv ∧
      ((after (.axisTrip 1 .rdvTimeout) t).axis 1).tripRecord = some ⟨.rdvTimeout, 0, 0⟩ := by decide

theorem test_coalescing_expiry :
    let t := after .coalescingTimerExpiry { running with comp := { running.comp with
      coalescingCount := 2, coalescingTimer := some 1 } }
    t.icause = 0b000001 ∧ t.comp.coalescingCount = 0 := by decide

theorem test_bus_expiry_requests :
    (after .busIntervalTimerExpiry { running with meas := { running.meas with busTimer := some 0 } }).meas.queue =
      [⟨.bus, false, .convertingBus⟩] := by decide

theorem test_port_timeout_bit :
    (after (.portTimeout .read) { returning with readTxn := some ⟨.admin, 0x2000, true, some 3⟩ }).fsum = 2 := by
  decide

theorem test_timebase_wraps :
    (after .timebaseIncrement { running with timebase := 0xFFFFFFFF }).timebase = 0 := by decide

/-- R46: with one more tick a rising carrier one short of H stands at its peak, H ticks after the valley. -/
theorem test_tick_reaches_peak :
    let s := withAxis { playing 0 with carrierCount := 999 }
    let t := withAxis { playing 0 with carrierCount := 998 }
    ((tick s).axis 0).carrierCount = 1000 ∧ ((tick s).axis 0).rising = false ∧
      ((tick t).axis 0).carrierCount = 999 ∧ ((tick t).axis 0).rising = true := by decide

/-- R117: the leg U conversion ends with its 32nd tick, 0.4 µs after it began, and the result comes with
the 32nd tick of leg V's (of a stale request here, whose codes do not matter). -/
theorem test_tick_ends_conversions :
    let at' := fun (p : Progress) (n : Nat) => ((tick { withAxis (playing 0) with
      meas := { running.meas with queue := [⟨.axis 0, true, p⟩], elapsed := n } }).meas.queue.map
        (·.progress))
    at' .convertingU 30 = [.convertingU] ∧ at' .convertingU 31 = [.convertingV] ∧
      at' .convertingV 30 = [.convertingV] ∧ at' .convertingV 31 = [] := by decide

/-- R122: codes 1948 and 2050 have magnitudes 100 and 2. -/
theorem test_axis_result_peak_current :
    ((after (.axisResult 1948 2050) { withAxis (playing 1) with
      meas := { running.meas with queue := [⟨.axis 0, false, .convertingV⟩] } }).axis 0).active.map
        (·.stats.peakCurrent) = some 100 := by decide

theorem test_bus_result_flag :
    let t := after (.busResult 3100) { running with
      globals := { running.globals with ovLimit := 3000, f := 2 }
      meas := { running.meas with queue := [⟨.bus, false, .convertingBus⟩] } }
    t.ovFlag = false ∧ t.meas.ovRun = 1 := by decide

theorem test_leg_u_end :
    (after .legUConversionEnd { running with meas := { running.meas with
      queue := [⟨.axis 3, false, .convertingU⟩] } }).meas.queue = [⟨.axis 3, false, .convertingV⟩] := by decide

/-- A state with the read of axis 0's ring outstanding. -/
def fetching (x : Axis) : State :=
  { withAxis x with
    comp := { running.comp with reservations := 1 }
    admin := { running.admin with producer := 0 }
    readTxn := some ⟨.axis 0, 0x4040, true, some 5⟩ }

theorem test_axis_return_placed :
    let x := (after (.axisReadReturn (encodeSegment (record 0x31 1 1))) (fetching (playing 0))).axis 0
    x.fifo = [record 0x31 1 1] ∧ x.consumer = 3 := by decide

/-- R144, R147: dropped for an IDLE axis, and outside RUNNING. -/
theorem test_axis_return_dropped :
    let t := after (.axisReadReturn (encodeSegment (record 0x31 1 1))) (fetching idle)
    let u := after (.axisReadReturn (encodeSegment (record 0x31 1 1))) { fetching (playing 0) with part := .failed }
    (t.axis 0).consumer = 2 ∧ t.comp.reservations = 0 ∧ (u.axis 0).consumer = 2 ∧ (u.axis 0).fifo = [] := by decide

/-- FSUM bit 2 is source AXIS 0, kind ERROR (Table 12-9). -/
theorem test_axis_read_error :
    let t := after .axisReadError (fetching idle)
    t.fsum = 0x0004 ∧ t.comp.reservations = 0 ∧ (t.axis 0).state = .idle := by decide

theorem test_admin_return_runs_command :
    (after (.adminReadReturn (encodeCommand ⟨1, .startAxis 0⟩)) (returningAxis idle)) =
      after (.startAxis 1 0) (returningAxis idle) := by decide

theorem test_admin_error_halts :
    let t := after .adminReadError returning
    t.admin.state = .halted ∧ t.admin.haltReason = .fetchFault ∧ t.icause = 0b001100 := by decide

/-- A state with the write of a completion outstanding at the last slot of its ring. -/
def posting : State :=
  { running with
    comp := { running.comp with
      producer := 15, consumer := 9, reservations := 1, queue := [okCompletion 1 .zero] }
    admin := { running.admin with producer := 0 }
    writeTxn := some ⟨.completion, 0x10F0, completionBytes true (okCompletion 1 .zero), some 4⟩ }

theorem test_post_flips_lap :
    let t := after .completionWriteOk posting
    t.comp.producer = 0 ∧ t.comp.lap = false ∧ t.comp.reservations = 0 ∧ t.icause = 0b000001 := by decide

/-- FSUM bit 10 is source COMPLETION, kind ERROR (Table 12-9). -/
theorem test_write_error_records_fault :
    (recordFault (.transaction .completion .error) posting).fsum = 0x0400 ∧
      (discardPending posting).comp.queue = [] ∧ (discardPending posting).comp.reservations = 0 := by decide

/-- A state with a snapshot's write outstanding. -/
def snapping : State :=
  { running with
    comp := { running.comp with reservations := 1 }
    admin := { running.admin with
      state := .executing, current := some ⟨1, .readAxis 0 0xA000⟩
      snapshot := some ⟨0xA000, snapshotBytes running 0, 55, true⟩, producer := 0 }
    writeTxn := some ⟨.snapshot, 0xA000, snapshotBytes running 0, some 4⟩ }

theorem test_snapshot_ok :
    (after (.snapshotWriteResponse true) snapping).comp.queue = [okCompletion 1 (.readAxis 55)] := by decide

theorem test_snapshot_error :
    let t := after (.snapshotWriteResponse false) snapping
    t.fsum = 0x1000 ∧ t.admin.state = .waiting ∧ t.comp.queue.map (·.status) = [.writeFault] := by decide

theorem test_late_response : after (.lateResponse .read) returning = returning := by decide

theorem test_resetting_end :
    (after .resettingEnd { running with part := .resetting }).part = .disabled := by decide

theorem test_quiesce_end :
    let t := after .quiesceEnd { running with part := .quiescing }
    t.part = .disabled ∧ t.icause = 0b010000 := by decide

/-! ### Witnesses: for each statement with hypotheses, states and operands that meet the hypotheses of
each of its clauses together, at the boundaries of their ranges -/

/-- RESETTING with a read outstanding. -/
def resettingBusy : State := { returning with part := .resetting }

/-- QUIESCING with one reservation held. -/
def quiescing : State := { running with part := .quiescing, comp := { running.comp with reservations := 1 } }

/-- Axes 0 (active), 1 (tripped) and 2 (idle) together. -/
def mixed : State := ((running.setAxis 0 (playing 1)).setAxis 1 tripped).setAxis 2 idle

/-- RUNNING with no completion ring and the read of an administrative command outstanding. -/
def unringed : State :=
  { State.reset with
    part := .running
    admin := { AdminUnit.reset with state := .fetching, ringBase := 0x2000, ringSize := 8, producer := 4 }
    readTxn := some ⟨.admin, 0x2000, false, none⟩ }

/-- Axis 0 as given, its carrier falling. -/
def falling (x : Axis) : State := withAxis { x with rising := false }

theorem witness_StepRunsFrontCommand :
    ({ running with pending := [.imaskWrite 1, .fsumRead 0 .word] } : State).pending =
      .imaskWrite 1 :: [.fsumRead 0 .word] := rfl

/-- One short of everything: the carrier at 998 of 1000, the conversion at 30 ticks, the microsecond at 78. -/
def quiet : State :=
  { withAxis { playing 0 with carrierCount := 998 } with
    subTick := 78
    meas := { running.meas with queue := [⟨.axis 0, false, .convertingU⟩], elapsed := 30 } }

/-- Under reset; with nothing due, every count one short; with one event due alone, at the last tick of a
microsecond; and either side of that tick. -/
theorem witness_IdleStepCountsOneTick :
    (let s : State := { running with resetLow := true }
     s.pending = [] ∧ s.resetLow = true) ∧
    (quiet.pending = [] ∧ quiet.resetLow = false ∧ Steady quiet ∧ ∀ e, ¬ DueNow quiet e) ∧
    (let s : State := { quiet with subTick := 79 }
     s.pending = [] ∧ s.resetLow = false ∧ Steady s ∧ s.reports.Nodup ∧ DueNow s .timebase ∧
      ∀ e, DueNow s e → e = .timebase) ∧
    (∀ n ∈ [78, 79], let s : State := { running with subTick := n }
      s.pending = [] ∧ s.resetLow = false ∧ s.part ≠ .resetting) ∧ 78 + 1 < 80 ∧ 80 ≤ 79 + 1 := by
  have none : dueEvents quiet = [] := by decide
  have one : dueEvents { quiet with subTick := 79 } = [.timebase] := by decide
  refine ⟨by decide, ⟨by decide, by decide, by decide, fun e => ?_⟩,
    ⟨by decide, by decide, by decide, by decide, mem_dueEvents.mp (by simp [one]), fun e h => ?_⟩,
    by decide, by decide, by decide⟩
  · simp [← mem_dueEvents, none]
  · simpa [one] using mem_dueEvents.mpr h

theorem witness_PinResetAndRelease :
    ({ running with resetLow := true } : State).resetLow = true ∧
      Steady { running with resetLow := true } := by decide

/-- The ends, with nothing outstanding and with a transaction; the responses that end RESETTING and those
that do not, of an axis ring, the administrative ring, a completion and a snapshot; and another part
state. -/
theorem witness_ResettingAndQuiesceEnd :
    (let s : State := { running with part := .resetting }
     s.part = .resetting ∧ s.readTxn = none ∧ s.writeTxn = none) ∧
    (resettingBusy.part = .resetting ∧ resettingBusy.readTxn = some ⟨.admin, 0x2000, true, none⟩ ∧
      resettingBusy.writeTxn = none) ∧
    (let s : State := { fetching idle with part := .resetting, writeTxn := snapping.writeTxn }
     s.part = .resetting ∧ s.readTxn = some ⟨.axis 0, 0x4040, true, some 5⟩ ∧
      s.writeTxn = some ⟨.snapshot, 0xA000, snapshotBytes running 0, some 4⟩) ∧
    (let s : State := { posting with part := .resetting }
     s.part = .resetting ∧ s.readTxn = none ∧ s.writeTxn = posting.writeTxn ∧ posting.writeTxn.isSome = true) ∧
    (let s : State := { running with part := .quiescing }
     s.part = .quiescing ∧ s.comp.reservations = 0) ∧
    (quiescing.part = .quiescing ∧ quiescing.comp.reservations ≠ 0) ∧
    (running.part ≠ .resetting ∧ running.part ≠ .quiescing ∧ Steady running) := by decide

theorem witness_SoftResetAwaitsTransactions :
    (running.live = true ∧ running.readTxn = none ∧ running.writeTxn = none) ∧
    (returning.live = true ∧ returning.readTxn ≠ none) ∧
    (posting.live = true ∧ posting.writeTxn ≠ none) := by decide

/-- In DISABLED, in RUNNING, and with a unit to restart. -/
theorem witness_SetEnableRunsDisabledPart :
    ∀ s ∈ [State.reset, running, { running with admin := { running.admin with state := .halted } }],
      s.live = true ∧ Steady s := by decide

/-- With every axis inactive, outside RUNNING, with one axis active, and with an axis to trip and two to
leave. -/
theorem witness_ClearEnableQuiesces :
    (∀ s ∈ [running, State.reset, mixed, quiescing], s.live = true ∧ Steady s) ∧
    (∀ a, running.activeAxis a = false) ∧ State.reset.part ≠ .running ∧
    (let s := withAxis (playing 1)
     s.live = true ∧ Steady s ∧ s.part = .running ∧ s.activeAxis 0 = true ∧
      ∀ b ≠ 0, s.activeAxis b = false ∧ ∀ g, hasAxis (s.group g).arrived b = false) ∧
    (mixed.part = .running ∧ mixed.activeAxis 0 = true ∧ mixed.activeAxis 1 = false ∧
      mixed.activeAxis 2 = false ∧ ∀ g, hasAxis (mixed.group g).arrived 1 = false) := by decide

theorem witness_AdminRestartLeavesHalted :
    (∀ s ∈ [running, State.reset], s.live = true ∧ Steady s) ∧
    ((true = true → running.part ≠ .disabled) ∧ (true = false → running.part ≠ .running)) ∧
    ((false = true → State.reset.part ≠ .disabled) ∧ (false = false → State.reset.part ≠ .running)) := by decide

/-- The size codes at the ends of the two ranges. -/
theorem witness_AdmringAcceptedInDisabled :
    (State.reset.live = true ∧ Steady State.reset ∧ State.reset.part = .disabled) ∧
    ((0x40#32).toNat % 16 = 0 ∧ 2 ≤ (0x42#32).toNat % 16 ∧ (0x4C#32).toNat % 16 ≤ 12) ∧
    ((0x41#32).toNat % 16 = 1 ∧ 12 < (0x4D#32).toNat % 16) ∧
    (running.live = true ∧ Steady running ∧ running.part ≠ .disabled) := by decide

/-- A ring of 8 with indices 2 and 5: 4 and 8 retract or lie outside, 5 and 1 do not; and an unconfigured
ring, on which every index is refused. CCONS may go from 1 up to a producer index of 3. -/
theorem witness_RingIndexWritesAreJudged :
    let retracts := fun (v : Word) (size consumer producer : Nat) => size ≤ v.toNat ∨
      ((v.toNat : Int) - consumer) % size < ((producer : Int) - consumer) % size
    (running.live = true ∧ Steady running) ∧
    (RingOk 8 5 2 ∧ retracts 4 8 2 5 ∧ retracts 8 8 2 5 ∧ ¬ retracts 5 8 2 5 ∧ ¬ retracts 1 8 2 5) ∧
    (RingOk ((withAxis idle).axis 0).ringSize ((withAxis idle).axis 0).producer
      ((withAxis idle).axis 0).consumer) ∧
    (RingOk running.admin.ringSize running.admin.producer running.admin.consumer ∧
      retracts 3 8 0 4 ∧ ¬ retracts 7 8 0 4) ∧
    (RingOk (running.axis 3).ringSize (running.axis 3).producer (running.axis 3).consumer ∧
      retracts 0 0 0 0) ∧
    (RingOk 16 3 1 ∧ ((3 : Int) - 1) % 16 < ((4 : Int) - 1) % 16 ∧
      ¬ ((3 : Int) - 1) % 16 < ((3 : Int) - 1) % 16) := by decide

/-- With a cause enabled, with none, in RESETTING, and under reset. -/
theorem witness_InterruptRegistersAndLine :
    (({ running with icause := 0b000100, imask := 0b000100 } : State).irqLow = true ∧ running.irqLow = false) ∧
    (running.resetLow = false ∧ running.live = true) ∧ resettingBusy.live = false ∧
    ({ running with resetLow := true } : State).resetLow = true := by decide

/-- Under reset, out of it with ring size codes 0, 2 and 12, live, and in RESETTING. -/
theorem witness_FaultSummaryReadAndIgnoredWrites :
    (let s : State := { running with resetLow := true }
     s.resetLow = true ∧ s.live = false ∧ Steady s) ∧
    (∀ k ∈ [0, 2, 12], let s : State := { running with admin := { running.admin with
        ringBase := 0x2040, ringSize := if k = 0 then 0 else 2 ^ k } }
      s.resetLow = false ∧ s.live = true ∧ s.admin.ringBase.toNat % 64 = 0 ∧
        ((k = 0 ∧ s.admin.ringSize = 0) ∨ (2 ≤ k ∧ k ≤ 12 ∧ s.admin.ringSize = 2 ^ k))) ∧
    0x34#6 ≤ 0x34#6 ∧ 0x34#6 ≤ 0x3F#6 ∧ (resettingBusy.live = false ∧ Steady resettingBusy) := by decide

theorem witness_InputLevels :
    (∀ s ∈ [mixed, resettingBusy], Steady s ∧ (∀ r ∈ s.reports, r.cause ≠ .emergency) ∧
      (s.axis 0).pinActive = false) ∧
    (let s : State := { mixed with emergency := true, reports := [⟨1, .rdvBroken⟩, ⟨0, .emergency⟩] }
     Steady s ∧ s.live = true ∧ s.reports.filter (fun r => r.cause = .emergency) = [⟨0, .emergency⟩]) ∧
    (let s := withAxis { idle with pinActive := true }
     Steady s ∧ (s.axis 0).pinActive = true) := by decide

/-- Active already, becoming active in RUNNING, and in RESETTING. -/
theorem witness_EmergencyForcesEveryLeg :
    (let s : State := { mixed with emergency := true }
     Steady s ∧ s.emergency = true) ∧
    (Steady mixed ∧ mixed.emergency = false ∧ mixed.live = true) ∧
    (Steady resettingBusy ∧ resettingBusy.emergency = false ∧ resettingBusy.live = false) := by decide

/-- Sizes 4 and 4096 are valid, 3 and 8192 and a base of 32 are not; each reason for RING_BUSY. -/
theorem witness_SetCompletionRingMovesRing :
    CommandReturns returning ∧ ¬ RingArguments 0x8000 3 ∧ ¬ RingArguments 0x8000 8192 ∧
    ¬ RingArguments 0x8020 16 ∧ RingArguments 0x8000 4 ∧ RingArguments 0x8040 4096 ∧
    ((∀ a, (returning.axis a).state = .idle) ∧ returning.comp.posted = 0 ∧
      returning.comp.reservations = 1) ∧
    (CommandReturns (returningAxis (playing 0)) ∧ ¬ ∀ a, ((returningAxis (playing 0)).axis a).state = .idle) ∧
    (let s : State := { returning with comp := { returning.comp with producer := 1, reservations := 2 } }
     CommandReturns s ∧ s.comp.posted = 1 ∧ s.comp.reservations ≠ 1) ∧
    (let s := unringed.setAxis 0 tripped
     s.live = true ∧ s.part = .running ∧ s.comp.ringSize = 0 ∧ s.admin.state = .fetching ∧
      0 < s.admin.occupancy ∧ s.readTxn.map (fun t => (t.ring, t.reserved)) = some (RingId.admin, false) ∧
      ¬ ∀ a, (s.axis a).state = .idle) ∧
    (unringed.live = true ∧ unringed.part = .running ∧ unringed.comp.ringSize = 0 ∧
      unringed.comp.posted = 0 ∧ unringed.comp.reservations = 0 ∧ unringed.admin.state = .fetching ∧ 0 < unringed.admin.occupancy ∧
      unringed.readTxn.map (fun t => (t.ring, t.reserved)) = some (RingId.admin, false) ∧
      ∀ a, (unringed.axis a).state = .idle) :=
  ⟨by decide, by decide, by decide, by decide, by decide, by decide, by decide, by decide, by decide,
    by decide, by decide⟩

/-- Each argument at the ends of its range and just beyond (k, f, the limits). -/
theorem witness_SetGlobalReplacesSettings :
    let valid := fun (k f : Byte) (ov uv : Half) =>
      1 ≤ k.toNat ∧ 1 ≤ f.toNat ∧ f.toNat ≤ 8 ∧ ov.toNat ≤ 4095 ∧ uv.toNat ≤ 4095
    CommandReturns returning ∧ valid 1 1 4095 0 ∧ valid 255 8 0 4095 ∧ ¬ valid 0 1 0 0 ∧ ¬ valid 1 0 0 0 ∧
      ¬ valid 1 9 0 0 ∧ ¬ valid 1 1 4096 0 ∧ ¬ valid 1 1 0 4096 := by decide

theorem witness_SetAxisRingEmptiesRing :
    CommandReturns returning ∧ 4 ≤ (4#8).toNat ∧ ¬ RingArguments 1 4 ∧
    ((3#8).toNat = (3 : AxisId).val ∧ RingArguments 0x9000 4096) ∧
    (CommandReturns (returningAxis tripped) ∧ ((returningAxis tripped).axis 0).state ≠ .idle) ∧
    (CommandReturns (returningAxis { idle with fifo := [record 1 1 1] }) ∧
      ((returningAxis { idle with fifo := [record 1 1 1] }).axis 0).fifo ≠ []) ∧
    ((returning.axis 3).state = .idle ∧ (returning.axis 3).fifo = []) := by decide

/-- Legal and illegal combinations at each boundary: H 64 and 32767; D + M one below H and equal to it;
T_boot + D equal to 2H and one beyond; M equal to T_boot and one beyond. -/
theorem witness_ConfigureAxisReplacesConfiguration :
    let legal := fun (h tBoot d m : Nat) => decide <| 64 ≤ h ∧ h ≤ 32767 ∧ tBoot ≤ 4095 ∧ d + m < h ∧
      (tBoot = 0 ∨ (m ≤ tBoot ∧ tBoot + d ≤ 2 * h))
    CommandReturns (returningAxis idle) ∧ CommandReturns (returningAxis (playing 0)) ∧
    legal 64 0 63 0 ∧ legal 32767 4095 255 255 ∧ ¬ legal 63 0 0 0 ∧ ¬ legal 32768 0 0 0 ∧
    ¬ legal 64 0 64 0 ∧ legal 64 118 10 20 ∧ ¬ legal 64 119 10 20 ∧ legal 64 20 10 20 ∧ ¬ legal 64 19 10 20 ∧
    (3#8).toNat = (3 : AxisId).val ∧ 4 ≤ (4#8).toNat ∧
    ((returningAxis (playing 0)).axis 0).state ≠ .idle ∧ ((returningAxis idle).axis 0).state = .idle := by decide

/-- Each refusal of START_AXIS in turn, and a start. -/
theorem witness_StartAxisEntersPrecharge :
    let refusal := fun (s : State) =>
      let x := s.axis 0
      if x.state ≠ .idle then some Detail.wrongState
      else if x.configured = false then some .notConfigured
      else if x.ringSize = 0 then some .noRing
      else if x.pinActive = true then some .tripActive
      else if s.emergency = true then some .emergencyActive
      else if s.ovFlag = true ∨ s.uvFlag = true then some .busFault
      else none
    (4 ≤ (4#8).toNat ∧ (0#8).toNat = (0 : AxisId).val) ∧
    (∀ x ∈ [(returningAxis tripped, some Detail.wrongState), (returning, some .notConfigured),
        (returningAxis { idle with ringSize := 0, consumer := 0, producer := 0 }, some .noRing),
        (returningAxis { idle with pinActive := true }, some .tripActive),
        ({ returningAxis idle with emergency := true }, some .emergencyActive),
        ({ returningAxis idle with ovFlag := true }, some .busFault), (returningAxis idle, none)],
      CommandReturns x.1 ∧ refusal x.1 = x.2) := by decide

/-- An axis that waits with a release on its way: its head is a segment, then a lone MARK. -/
def releasing (st : AxisState) (seg : Segment) : Axis :=
  { inState st with arrival := some 2, releaseSent := true, fifo := [seg] }

/-- Inactive axes, an active one without and with a stop pending, a release on its way (before the valley
with a segment and with a last MARK, and in WAIT_RDV), and a report in flight. -/
theorem witness_StopAxisAnswersByState :
    (∀ x ∈ [idle, tripped, playing 1, { playing 1 with pendingStop := some 9 }],
      CommandReturns (returningAxis x) ∧ groupReports (returningAxis x) 0 = [] ∧
        ((returningAxis x).axis 0).releaseSent = false) ∧
    (4 ≤ (4#8).toNat ∧ 2 ≤ (2#8).toNat ∧ (0#8).toNat = (0 : AxisId).val ∧ (1#8).toNat ≤ 1) ∧
    ((returningAxis idle).axis 0).state = .idle ∧ ((returningAxis tripped).axis 0).state = .tripped ∧
    ((returningAxis (playing 1)).activeAxis 0 = true ∧
      ((returningAxis (playing 1)).axis 0).pendingStop = none) ∧
    ((returningAxis { playing 1 with pendingStop := some 9 }).activeAxis 0 = true ∧
      ((returningAxis { playing 1 with pendingStop := some 9 }).axis 0).pendingStop ≠ none) ∧
    (∀ x ∈ [releasing .starved (waiting 1 1 1), releasing .starved (waiting 1 5 0),
        releasing .waitRdv (waiting 1 5 0)],
      CommandReturns (returningAxis x) ∧ groupReports (returningAxis x) 0 = []) ∧
    (ReleaseOnItsWay (releasing .starved (waiting 1 1 1)) ∧
      ReleaseOnItsWay (releasing .starved (waiting 1 5 0)) ∧
      ReleaseOnItsWay (releasing .waitRdv (waiting 1 5 0))) ∧
    (let s : State := { returningAxis (playing 1) with reports := [⟨0, .rdvBroken⟩, ⟨1, .rdvBroken⟩] }
     CommandReturns s ∧ s.activeAxis 0 = true ∧ groupReports s 0 = [⟨0, .rdvBroken⟩]) :=
  ⟨by decide, by decide, by decide, by decide, by decide, by decide, by decide,
    ⟨⟨rfl, rfl, by decide, _, _, rfl, by decide⟩, ⟨rfl, rfl, by decide, _, _, rfl, by decide⟩,
      ⟨rfl, rfl, by decide, _, _, rfl, by decide⟩⟩, by decide⟩

theorem witness_ImmediateStopEndsEverything :
    let s := returningAxis { playing 1 with
      staged := some (record 2 1 1), fifo := [record 3 1 1], pendingStop := some 9 }
    CommandReturns s ∧ (0#8).toNat = (0 : AxisId).val ∧ s.activeAxis 0 = true ∧ groupReports s 0 = [] ∧
      (s.axis 0).releaseSent = false := by decide

theorem witness_ClearFaultReturnsTripRecord :
    let refusal := fun (s : State) =>
      let x := s.axis 0
      if x.state ≠ .tripped then some Detail.wrongState
      else if x.pinActive = true then some .tripActive
      else if s.emergency = true then some .emergencyActive
      else none
    (4 ≤ (4#8).toNat ∧ 2 ≤ (2#8).toNat ∧ (0#8).toNat = (0 : AxisId).val ∧ (1#8).toNat ≤ 1) ∧
    (∀ x ∈ [(returningAxis idle, some Detail.wrongState),
        (returningAxis { tripped with pinActive := true }, some .tripActive),
        ({ returningAxis tripped with emergency := true }, some .emergencyActive),
        (returningAxis tripped, none)], CommandReturns x.1 ∧ refusal x.1 = x.2) ∧
    ((returningAxis tripped).axis 0).tripRecord = some ⟨.underrun, 77, 0⟩ := by decide

theorem witness_DefineGroupReplacesEntry :
    CommandReturns returning ∧ 8 ≤ (8#8).toNat ∧ (0#16).toNat = 0 ∧
    ((7#8).toNat = (7 : GroupId).val ∧ (1#16).toNat ≠ 0 ∧ (returning.group 7).state ≠ .gathering) ∧
    (CommandReturns (returning.setGroup 2 gathering) ∧ (2#8).toNat = (2 : GroupId).val ∧
      ((returning.setGroup 2 gathering).group 2).state = .gathering) := by decide

theorem witness_ReadAxisFormsSnapshot :
    CommandReturns returning ∧ 4 ≤ (4#8).toNat ∧ (0xA020#32).toNat % 64 ≠ 0 ∧
      (3#8).toNat = (3 : AxisId).val ∧ (0xA040#32).toNat % 64 = 0 := by decide

/-- The read of axis 0's ring outstanding, and a command that waits for it. -/
def awaited (x : Axis) (body : AdminBody) : State :=
  { fetching x with
    comp := { running.comp with reservations := 2 }
    admin := { running.admin with state := .executing, current := some ⟨7, body⟩ } }

theorem not_waitsFor {s : State} (h : s.admin.state ≠ .executing) (a : AxisId) (c : AdminCommand) :
    ¬ WaitsFor s a c := fun w => h w.1

/-- No command in execution; a READ_AXIS in execution, which goes on; and each command that waits. -/
theorem witness_AxisReadReturnPlacesOrDrops :
    (∀ x ∈ [playing 0, idle], (fetching x).live = true ∧ Steady (fetching x) ∧
      (fetching x).readTxn = some ⟨.axis 0, 0x4040, true, some 5⟩ ∧
      (fetching x).admin.state ≠ .executing) ∧
    ((fetching (playing 0)).activeAxis 0 = true ∧ (fetching (playing 0)).part = .running ∧
      ((fetching (playing 0)).axis 0).ringSize ≠ 0) ∧
    ((fetching idle).activeAxis 0 = false ∧ ((fetching idle).part = .quiescing →
      1 < (fetching idle).comp.reservations)) ∧
    (let s : State := { fetching (playing 0) with part := .failed }
     s.live = true ∧ Steady s ∧ s.readTxn = some ⟨.axis 0, 0x4040, true, some 5⟩ ∧ s.part ≠ .running) ∧
    (∀ c, ¬ WaitsFor (awaited (playing 0) (.readAxis 1 0xA000)) 0 c) ∧
    (∀ body ∈ [AdminBody.startAxis 0, .setAxisRing 0 0x9000 16, .clearFault 0 1], ∀ x ∈ [idle, tripped],
      let s := awaited x body
      s.live = true ∧ Steady s ∧ s.readTxn = some ⟨.axis 0, 0x4040, true, some 5⟩ ∧
      s.activeAxis 0 = false ∧ (s.part = .quiescing → 1 < s.comp.reservations) ∧
      ((s.axis 0).state = .tripped → (s.axis 0).tripRecord ≠ none)) ∧
    (WaitsFor (awaited idle (.startAxis 0)) 0 ⟨7, .startAxis 0⟩ ∧
      WaitsFor (awaited idle (.setAxisRing 0 0x9000 16)) 0 ⟨7, .setAxisRing 0 0x9000 16⟩ ∧
      WaitsFor (awaited tripped (.clearFault 0 1)) 0 ⟨7, .clearFault 0 1⟩) :=
  ⟨by decide, by decide, by decide, by decide,
    (fun c ⟨_, h, tag, axis, _, k⟩ => by
      cases h
      rcases k with k | ⟨_, _, k⟩ | ⟨_, k⟩ <;> cases k),
    by decide,
    ⟨rfl, rfl, 7, 0, rfl, .inl rfl⟩, ⟨rfl, rfl, 7, 0, rfl, .inr (.inl ⟨_, _, rfl⟩)⟩,
    ⟨rfl, rfl, 7, 0, rfl, .inr (.inr ⟨_, rfl⟩)⟩⟩

theorem witness_AdminReadReturnHandsCommandOver :
    (CommandReturns returning ∧ commandRow 7 (.startAxis 0) = some (.startAxis 7 0)) ∧
    ((0#8).toNat = 0 ∧ 9 < (10#8).toNat) ∧
    (let s : State := { returning with
        part := .quiescing, comp := { returning.comp with reservations := 2 } }
     s.live = true ∧ s.readTxn = some ⟨.admin, 0x2000, true, none⟩ ∧ s.part ≠ .running ∧
      true.toNat < s.comp.reservations) ∧
    (unringed.live = true ∧ unringed.readTxn = some ⟨.admin, 0x2000, false, none⟩ ∧
      unringed.part = .running ∧ unringed.comp.ringSize = 0 ∧
      (encodeCommand ⟨7, .startAxis 0⟩).getD 2 0 ≠ 0x01#8) := by decide

theorem witness_ReadFailuresReportAndHalt :
    (∀ x ∈ [idle, tripped, playing 0], (fetching x).live = true ∧ Steady (fetching x) ∧
      (fetching x).readTxn = some ⟨.axis 0, 0x4040, true, some 5⟩ ∧
      ((fetching x).part = .quiescing → 1 < (fetching x).comp.reservations) ∧
      (fetching x).admin.state ≠ .executing) ∧
    (let s := awaited tripped (.clearFault 0 0)
     s.live = true ∧ Steady s ∧ s.readTxn = some ⟨.axis 0, 0x4040, true, some 5⟩ ∧
      (s.part = .quiescing → 1 < s.comp.reservations) ∧ s.activeAxis 0 = false ∧
      ((s.axis 0).state = .tripped → (s.axis 0).tripRecord ≠ none)) ∧
    WaitsFor (awaited tripped (.clearFault 0 0)) 0 ⟨7, .clearFault 0 0⟩ ∧
    (let s : State := { returning with readTxn := some ⟨.admin, 0x2000, true, some 3⟩ }
     s.live = true ∧ Steady s ∧ s.readTxn = some ⟨.admin, 0x2000, true, some 3⟩ ∧
      (s.part = .quiescing → true.toNat < s.comp.reservations)) :=
  ⟨by decide, by decide, ⟨rfl, rfl, 7, 0, rfl, .inr (.inr ⟨_, rfl⟩)⟩, by decide⟩

theorem witness_CompletionWriteOkPostsHead :
    posting.live = true ∧ posting.part ≠ .failed ∧
      posting.writeTxn =
        some ⟨.completion, 0x10F0, completionBytes true (okCompletion 1 .zero), some 4⟩ ∧
      posting.comp.queue = okCompletion 1 .zero :: [] ∧ posting.comp.producer < posting.comp.ringSize ∧
      (posting.part = .quiescing → 1 < posting.comp.reservations) := by decide

/-- With no READ_AXIS in execution, with one whose snapshot is not issued, and with one whose is. -/
theorem witness_CompletionWriteFailureFailsPart :
    let reading := fun (issued : Bool) => { posting with
      comp := { posting.comp with reservations := 2 }
      admin := { snapping.admin with snapshot := some ⟨0xA000, snapshotBytes running 0, 55, issued⟩ } }
    (∀ s ∈ [posting, reading false, reading true], s.live = true ∧ s.writeTxn =
      some ⟨.completion, 0x10F0, completionBytes true (okCompletion 1 .zero), some 4⟩) ∧
    (¬ ∃ w ∈ posting.admin.snapshot, w.issued = false) ∧
    (∃ w ∈ (reading false).admin.snapshot, w.issued = false) ∧
    ¬ ∃ w ∈ (reading true).admin.snapshot, w.issued = false := by decide

theorem witness_SnapshotAndLateResponses :
    (Steady posting ∧ posting.readTxn.bind (·.counter) = none) ∧
    (Steady returning ∧ returning.writeTxn.bind (·.counter) = none) ∧
    (snapping.live = true ∧ snapping.comp.ringSize ≠ 0 ∧
      snapping.writeTxn = some ⟨.snapshot, 0xA000, snapshotBytes running 0, some 4⟩ ∧
      snapping.admin.snapshot = some ⟨0xA000, snapshotBytes running 0, 55, true⟩ ∧
      snapping.admin.current = some ⟨1, .readAxis 0 0xA000⟩ ∧
      (snapping.part = .quiescing → snapping.comp.reservations ≠ 0)) := by decide

/-- Group 2 gathering with axis 1 arrived and axis 0 playing. -/
def gatheringState : State :=
  ((running.setGroup 2 gathering).setAxis 0 (playing 1)).setAxis 1
    { inState .waitRdv with arrival := some 2, fifo := [waiting 0x31 1 1] }

/-- A group that does not gather, one whose timer runs, and the trip of a member and of another axis. -/
theorem witness_GroupFailuresTripArrivedAxes :
    (gatheringState.live = true ∧ Steady gatheringState) ∧
    (gatheringState.group 3).state ≠ .gathering ∧
    ((gatheringState.group 2).state = .gathering ∧ (gatheringState.group 2).timer ≠ none ∧
      hasAxis (gatheringState.group 2).arrived 1 = true) ∧
    (hasAxis (gatheringState.group 2).members 0 = true ∧ gatheringState.activeAxis 0 = true) ∧
    (let s := gatheringState.setAxis 2 (playing 0)
     s.live = true ∧ Steady s ∧ hasAxis (s.group 2).members 2 = false ∧ s.activeAxis 2 = true) := by decide

theorem witness_CoalescingAndBusTimerExpiry :
    (running.live = true ∧ Steady running ∧ running.comp.coalescingTimer = none ∧
      running.meas.busTimer = none) ∧
    (let s : State := { running with
        comp := { running.comp with coalescingTimer := some 1 }
        meas := { running.meas with busTimer := some 1 } }
     s.live = true ∧ Steady s ∧ s.comp.coalescingTimer ≠ none ∧ s.meas.busTimer ≠ none) := by decide

theorem timer_cases {p : Timer → Prop} (group : ∀ g, p (.group g)) (coalescing : p .coalescing) (bus : p .bus)
    (read : p (.port .read)) (write : p (.port .write)) : ∀ x, p x
  | .group g => group g
  | .coalescing => coalescing
  | .bus => bus
  | .port .read => read
  | .port .write => write

/-- Under reset, with a timer that does not reach 0, with one alone that does, and with two. -/
theorem witness_TimebaseIncrementRunsTimers :
    (Steady { running with resetLow := true }) ∧
    (let s : State := { running with meas := { running.meas with busTimer := some 2 } }
     Steady s ∧ s.resetLow = false ∧ ∀ x, timeLeft (microsecondLater s) x ≠ some 0) ∧
    (let s : State := { running with meas := { running.meas with busTimer := some 1 } }
     Steady s ∧ s.resetLow = false ∧ timeLeft (microsecondLater s) .bus = some 0 ∧
        ∀ y ≠ Timer.bus, timeLeft (microsecondLater s) y ≠ some 0) ∧
    (let s : State := { running with
        meas := { running.meas with busTimer := some 1 }
        comp := { running.comp with coalescingTimer := some 1 } }
     Steady s ∧ s.resetLow = false ∧ Timer.bus ≠ .coalescing ∧
        timeLeft (microsecondLater s) .bus = some 0 ∧ timeLeft (microsecondLater s) .coalescing = some 0 ∧
        ∀ z, timeLeft (microsecondLater s) z = some 0 → z = .bus ∨ z = .coalescing) :=
  ⟨by decide,
    ⟨by decide, by decide, timer_cases (by decide) (by decide) (by decide) (by decide) (by decide)⟩,
    ⟨by decide, by decide, by decide,
      timer_cases (by decide) (by decide) (by decide) (by decide) (by decide)⟩,
    ⟨by decide, by decide, by decide, by decide, by decide,
      timer_cases (by decide) (by decide) (by decide) (by decide) (by decide)⟩⟩

/-- The converter serves axis 0, and axis 0 stands as given. -/
def converting (x : Axis) (stale : Bool) (p : Progress) : State :=
  { withAxis x with meas := { running.meas with queue := [⟨.axis 0, stale, p⟩] } }

/-- A leg U in conversion and none; results that are stale, of an inactive axis, that leave the run below
N = 1, that reach it (limit 2047: no code is beyond; limit 100: code 1947 is, code 1948 is not), or come in FAILED; and a
head that is no leg V in conversion. -/
theorem witness_AxisResultMovesOvercurrentRun :
    let limited : Axis := { playing 1 with config := { idle.config with currentLimit := 100 } }
    (∀ s ∈ [converting (playing 1) false .convertingU, converting (playing 1) true .convertingV,
        converting idle false .convertingV, converting limited false .convertingV, running,
        { converting limited false .convertingV with part := .failed }],
      s.live = true ∧ Steady s) ∧
    (∀ q ∈ (converting limited false .convertingV).meas.queue.head?, q.progress ≠ .convertingU) ∧
    ((converting idle false .convertingV).activeAxis 0 = false) ∧
    ((converting limited false .convertingV).activeAxis 0 = true ∧
      (converting limited false .convertingV).part = .running ∧
      runAfter (limited.config.currentLimit < max (currentMagnitude 1948) (currentMagnitude 2048))
        limited.overcurrentRun < limited.config.n ∧
      limited.config.n ≤ runAfter (limited.config.currentLimit <
        max (currentMagnitude 1947) (currentMagnitude 2048)) limited.overcurrentRun) ∧
    (∀ q ∈ running.meas.queue.head?, q.source = .bus ∨ q.progress ≠ .convertingV) ∧
    ∀ q ∈ (converting (playing 1) false .convertingU).meas.queue.head?,
      q.source = .bus ∨ q.progress ≠ .convertingV := by decide

/-- A code at the limit keeps the flag clear; the code beyond it sets the flag at F = 1, and likewise
below the lower limit. -/
theorem witness_BusResultMovesFaultFlags :
    let s : State := { mixed with
      globals := { running.globals with ovLimit := 3000, uvLimit := 1000 }
      meas := { running.meas with queue := [⟨.bus, false, .convertingBus⟩] } }
    (s.live = true ∧ Steady s ∧ s.meas.queue = [⟨.bus, false, .convertingBus⟩] ∧
      s.ovFlag = false ∧ s.uvFlag = false ∧ s.activeAxis 0 = true) ∧
    (¬ s.globals.ovLimit < (3000#12).toNat ∧ ¬ (3000#12).toNat < s.globals.uvLimit) ∧
    (s.globals.ovLimit < (3001#12).toNat ∧
      s.globals.f ≤ runAfter (s.globals.ovLimit < (3001#12).toNat) s.meas.ovRun) ∧
    ((999#12).toNat < s.globals.uvLimit ∧
      s.globals.f ≤ runAfter ((999#12).toNat < s.globals.uvLimit) s.meas.uvRun) ∧
    (running.live = true ∧ Steady running ∧
      ∀ q ∈ running.meas.queue.head?, q.source ≠ .bus ∨ q.progress ≠ .convertingBus) := by decide

/-- No carrier to turn; waiting unreleased; before the last precharge period; and at a staging peak with a
stop pending, with a record staged, and with a head arrived. The axis's place in the queue is free or taken. -/
theorem witness_PeakAsksForSample :
    (Steady (withAxis idle) ∧ (withAxis idle).activeAxis 0 = false) ∧
    (∀ x ∈ [inState .waitRdv, { inState .precharge with prechargeIndex := 1 },
        { playing 2 with pendingStop := some 9 }, { playing 2 with staged := some (record 2 1 1) },
        { inState .starved with arrival := some 2, fifo := [waiting 1 1 1] }],
      Steady (withAxis x) ∧ (withAxis x).live = true ∧ (withAxis x).activeAxis 0 = true ∧
      ((withAxis x).axis 0).rising = true) ∧
    ((inState .waitRdv).released = false ∧ 1 + 1 < (inState .precharge).config.np) ∧
    (StagingPeak (playing 2) ∧ StagingPeak (inState .starved)) ∧
    (ConvSource.axis 0 ∉ (withAxis (inState .waitRdv)).meas.queue.map (·.source)) ∧
    (ConvSource.axis 0 ∈ (converting (inState .waitRdv) false .convertingU).meas.queue.map (·.source)) ∧
    (let s : State := { withAxis (inState .waitRdv) with part := .failed }
     Steady s ∧ s.live = true ∧ s.part ≠ .running) :=
  ⟨by decide, by decide, by decide, ⟨.inl ⟨rfl, _, rfl, by decide⟩, .inr (.inr rfl)⟩, by decide, by decide,
    by decide⟩

theorem witness_PeakRequestsNextPeriod :
    let s := withAxis (playing 1)
    Steady s ∧ s.live = true ∧ (s.axis 0).state = .run ∧ (s.axis 0).rising = true ∧
      (s.axis 0).active = some ⟨record 0x30 1 3, 1, .fresh⟩ ∧
      1 + 1 < (record 0x30 1 3).periods.toNat := by decide

/-- At the last period, at the last precharge period and in STARVED, with each kind of head, and with a
released head in WAIT_RDV. -/
theorem witness_StagingPeakExaminesHeads :
    (∀ x ∈ [playing 2, { inState .precharge with prechargeIndex := 2 }, inState .starved],
      Steady (withAxis x) ∧ (withAxis x).live = true ∧ (withAxis x).part ≠ .quiescing ∧
      ((withAxis x).axis 0).rising = true ∧ ((withAxis x).axis 0).fifo = []) ∧
    (Examines (playing 2) ∧ Examines { inState .precharge with prechargeIndex := 2 } ∧
      Examines (inState .starved)) ∧
    (failedCheckAt (withAxis (playing 2)) 0 (record 1 0 1) ≠ none ∧
      failedCheckAt (withAxis (playing 2)) 0 (record 1 1 1) = none ∧ (record 1 1 1).rdv = false ∧
      failedCheckAt (withAxis (playing 2)) 0 (record 1 5 0) = none ∧ (record 1 5 0).kind = 5) ∧
    (let s := withAxis { inState .waitRdv with released := true, fifo := [waiting 1 1 1] }
     Steady s ∧ s.live = true ∧ s.part ≠ .quiescing ∧ (s.axis 0).rising = true ∧
      (s.axis 0).state = .waitRdv ∧ (s.axis 0).released = true ∧ (s.axis 0).fifo = waiting 1 1 1 :: []) :=
  ⟨by decide, ⟨⟨.inl ⟨rfl, _, rfl, by decide⟩, rfl, rfl, rfl⟩,
    ⟨.inr (.inl ⟨rfl, by decide⟩), rfl, rfl, rfl⟩, ⟨.inr (.inr rfl), rfl, rfl, rfl⟩⟩, by decide, by decide⟩

/-- Axis 0 about to arrive at group 2 with one record. -/
def arriving (seg : Segment) (g : Group) : State :=
  (withAxis { inState .starved with fifo := [seg] }).setGroup 2 g

/-- At a BROKEN group, at an IDLE one it does not complete, and at one it completes, with a segment and
with a MARK. -/
theorem witness_ArrivalGathersOrReleases :
    (∀ s ∈ [arriving (waiting 1 1 1) { gathering with state := .broken, arrived := 0, timer := none },
        arriving (waiting 1 1 1) { gathering with state := .idle, arrived := 0, timer := none },
        arriving (waiting 1 1 1) gathering],
      Steady s ∧ s.live = true ∧ s.part ≠ .quiescing ∧ (s.axis 0).rising = true ∧
      (s.axis 0).fifo = waiting 1 1 1 :: [] ∧ failedCheckAt s 0 (waiting 1 1 1) = none) ∧
    Examines ((arriving (waiting 1 1 1) gathering).axis 0) ∧
    ((waiting 1 1 1).rdv = true ∧ (waiting 1 1 1).groupId = 2 ∧ (waiting 1 1 1).kind ≠ 5) ∧
    ((0#4 ||| axisBit 0) ≠ gathering.members ∧ (gathering.arrived ||| axisBit 0) = gathering.members ∧
      gathering.state ≠ .broken) ∧
    (let s := arriving (waiting 1 5 0) gathering
     failedCheckAt s 0 (waiting 1 5 0) = none ∧ (waiting 1 5 0).kind = 5 ∧ (waiting 1 5 0).rdv = true) :=
  ⟨by decide, ⟨.inr (.inr rfl), rfl, rfl, rfl⟩, by decide, by decide, by decide⟩

/-- No release; in WAIT_RDV a segment and a MARK; before it a segment, a last MARK, a MARK with a stop
pending, and a MARK with a record behind it that fails, that carries no RDV, and that arrives at a BROKEN
group, at one that gathers on and at one it completes. -/
theorem witness_ReleaseEndsWait :
    (Steady running ∧ running.live = true ∧ running.part ≠ .quiescing ∧
      (running.axis 0).releaseSent = false) ∧
    (∀ x ∈ [releasing .waitRdv (waiting 1 1 1), releasing .waitRdv (waiting 1 5 0),
        releasing .starved (waiting 1 1 1), releasing .precharge (waiting 1 5 0),
        { releasing .starved (waiting 1 5 0) with pendingStop := some 9 }],
      Steady (withAxis x) ∧ (withAxis x).live = true ∧ (withAxis x).part ≠ .quiescing ∧
      x.releaseSent = true ∧ x.arrival = some 2 ∧ x.fifo.length = 1) ∧
    ((waiting 1 1 1).kind ≠ 5 ∧ (waiting 1 5 0).kind = 5) ∧
    (let chained := fun (next : Segment) (g : Group) => (withAxis { releasing .starved (waiting 1 5 0) with
        fifo := [waiting 1 5 0, next] }).setGroup 2 g
     (∀ next ∈ [record 2 9 1, record 2 1 1, waiting 2 1 1],
      let s := chained next gathering
      Steady s ∧ s.live = true ∧ (s.axis 0).fifo = waiting 1 5 0 :: next :: [] ∧
        (s.axis 0).pendingStop = none) ∧
      failedCheckAt (chained (record 2 9 1) gathering) 0 (record 2 9 1) ≠ none ∧
      (failedCheckAt (chained (record 2 1 1) gathering) 0 (record 2 1 1) = none ∧
        (record 2 1 1).rdv = false) ∧
      (failedCheckAt (chained (waiting 2 1 1) gathering) 0 (waiting 2 1 1) = none ∧
        (waiting 2 1 1).rdv = true ∧ (gathering.arrived ||| axisBit 0) = gathering.members ∧
        (0#4 ||| axisBit 0) ≠ gathering.members)) := by decide

theorem witness_ValleyWithinSegmentAdvances :
    (Steady running ∧ running.activeAxis 0 = false) ∧
    (∀ x ∈ [playing 1, { inState .precharge with prechargeIndex := 1 }],
      Steady (falling x) ∧ (falling x).live = true ∧
      (falling x).activeAxis 0 = true ∧ ((falling x).axis 0).rising = false) ∧
    (((falling (playing 1)).axis 0).active = some ⟨record 0x30 1 3, 1, .fresh⟩ ∧
      1 + 1 < (record 0x30 1 3).periods.toNat) ∧
    (1 + 1 < (inState .precharge).config.np ∧ (inState .precharge).pendingStop = none) := by decide

/-- From each of the four states in which a boundary valley can fall. -/
theorem witness_BoundaryValleyStartsStagedRecord :
    let staged := fun (x : Axis) => falling { x with staged := some (record 2 1 1) }
    (∀ x ∈ [playing 2, { inState .precharge with prechargeIndex := 2 }, inState .starved],
      Steady (staged x) ∧ (staged x).live = true ∧ (staged x).part ≠ .quiescing ∧
      ((staged x).axis 0).rising = false ∧
      ((staged x).axis 0).pendingStop = none ∧ ((staged x).axis 0).staged = some (record 2 1 1)) ∧
    BoundaryValley ((staged (playing 2)).axis 0) ∧
    BoundaryValley ((staged { inState .precharge with prechargeIndex := 2 }).axis 0) ∧
    BoundaryValley ((staged (inState .starved)).axis 0) :=
  ⟨by decide, .inl ⟨rfl, _, rfl, by decide⟩, .inr (.inl ⟨rfl, by decide⟩), .inr (.inr (.inl rfl))⟩

/-- An arrived head, an end permission, and a starved period below and at G = 2. -/
theorem witness_BoundaryValleyWithNothingStaged :
    (∀ x ∈ [inState .waitRdv, { playing 2 with endPermission := true },
        { inState .starved with grace := 0 }, { inState .starved with grace := 1 }],
      let s := falling x
      Steady s ∧ s.live = true ∧ s.part ≠ .quiescing ∧
      (s.axis 0).rising = false ∧ (s.axis 0).pendingStop = none ∧ (s.axis 0).staged = none) ∧
    BoundaryValley ((falling (inState .waitRdv)).axis 0) ∧
    BoundaryValley ((falling { playing 2 with endPermission := true }).axis 0) ∧
    BoundaryValley ((falling { inState .starved with grace := 1 }).axis 0) ∧
    ((((closedAt 0 (falling { playing 2 with endPermission := true })).axis 0).endPermission = true ∧
      ((closedAt 0 (falling { playing 2 with endPermission := true })).axis 0).arrival = none ∧
      ((closedAt 0 (falling { playing 2 with endPermission := true })).axis 0).state ≠ .waitRdv) ∧
      ((closedAt 0 (falling { inState .starved with grace := 0 })).axis 0).grace + 1 < idle.config.g ∧
      idle.config.g ≤ ((closedAt 0 (falling { inState .starved with grace := 1 })).axis 0).grace + 1) :=
  ⟨by decide, .inr (.inr (.inr rfl)), .inl ⟨rfl, _, rfl, by decide⟩, .inr (.inr (.inl rfl)), by decide⟩

/-- At a closing valley, and at a precharge valley that is not the last, with nothing under way; with a
release on its way; and with a report in flight. -/
theorem witness_PendingStopTakesEffectAtValley :
    let stopping := fun (x : Axis) => falling { x with pendingStop := some 9 }
    (∀ x ∈ [playing 2, { inState .precharge with prechargeIndex := 0 }, releasing .starved (waiting 1 5 0)],
      let s := stopping x
      Steady s ∧ s.live = true ∧ s.part ≠ .quiescing ∧ (s.axis 0).rising = false ∧
      (s.axis 0).pendingStop = some 9 ∧ groupReports s 0 = []) ∧
    (BoundaryValley ((stopping (playing 2)).axis 0) ∧ ((stopping (playing 2)).axis 0).releaseSent = false) ∧
    (((stopping { inState .precharge with prechargeIndex := 0 }).axis 0).state = .precharge ∧
      ((stopping { inState .precharge with prechargeIndex := 0 }).axis 0).releaseSent = false) ∧
    (BoundaryValley ((stopping (releasing .starved (waiting 1 5 0))).axis 0) ∧
      ReleaseOnItsWay ((stopping (releasing .starved (waiting 1 5 0))).axis 0)) ∧
    (let s : State := { stopping (playing 2) with reports := [⟨0, .rdvTimeout⟩] }
     Steady s ∧ s.live = true ∧ groupReports s 0 = [⟨0, .rdvTimeout⟩]) :=
  ⟨by decide, ⟨.inl ⟨rfl, _, rfl, by decide⟩, by decide⟩, by decide,
    ⟨.inr (.inr (.inl rfl)), ⟨rfl, rfl, by decide, _, _, rfl, by decide⟩⟩, by decide⟩

theorem witness_TripIsOneEvent :
    (Steady mixed ∧ mixed.live = true ∧ mixed.activeAxis 0 = true) ∧
    (mixed.axis 1).state = .tripped ∧ (mixed.axis 2).state = .idle ∧
    (Steady resettingBusy ∧ resettingBusy.live = false) := by decide

/-- A crossing on each slope, one count below the compare or above it, and a carrier at the compare. -/
theorem witness_CrossingsAndDeadTimeMoveLegs :
    let at' := fun (n : Nat) (up : Bool) => withAxis { playing 1 with
      carrierCount := n, rising := up, work := ⟨300, 0, 1000⟩ }
    (∀ s ∈ [at' 299 true, at' 301 false, at' 300 true], Steady s ∧ s.live = true ∧ s.activeAxis 0 = true ∧
      s.emergency = false ∧ (s.axis 0).workOverride = false) ∧
    (299 < 300 ∧ 300 < ((at' 299 true).axis 0).workH) ∧ (0 < 300 ∧ 300 < 301) ∧ ¬ 300 < 300 ∧
    (let s := { at' 0 true with gates := running.gates.set 0 ⟨⟨.high, 1⟩, ⟨.low, 0⟩, ⟨.low, 0⟩⟩ }
     legDemand s 0 .u = Side.high.demand ∧ (s.gate 0 .u).demand = Side.high.demand) := by decide

/-- A free read channel with the administrative ring, an axis ring and no ring to serve; a free write channel
with a snapshot that waits, with a completion alone, and with neither. -/
theorem witness_ArbitersServeClaimants :
    (running.readTxn = none ∧ Steady running ∧ arbiterChoice running = some .admin) ∧
    (State.reset.readTxn = none ∧ arbiterChoice State.reset = none) ∧
    (let s := withAxis (playing 0)
     s.readTxn = none ∧ Steady s ∧ arbiterChoice s = some (.axis 0)) ∧
    (let s : State := { snapping with
        writeTxn := none
        admin := { snapping.admin with snapshot := some ⟨0xA000, snapshotBytes running 0, 55, false⟩ } }
     Steady s ∧ s.writeTxn = none ∧ s.part ≠ .failed ∧ s.part ≠ .resetting ∧
      s.admin.snapshot = some ⟨0xA000, snapshotBytes running 0, 55, false⟩) ∧
    (let s : State := { posting with writeTxn := none }
     Steady s ∧ s.writeTxn = none ∧ s.part ≠ .failed ∧ s.part ≠ .resetting ∧
      (∀ w ∈ s.admin.snapshot, w.issued = true) ∧ s.comp.queue = okCompletion 1 .zero :: []) ∧
    (running.writeTxn = none ∧ running.part ≠ .failed ∧ running.part ≠ .resetting ∧
      (∀ w ∈ running.admin.snapshot, w.issued = true) ∧ running.comp.queue = []) :=
  ⟨by decide, by decide, by decide, by decide, by decide, by decide⟩

/-- The opcodes at the ends of the range of those that name no command; and two records that differ in
their reserved bytes and bits alone. -/
theorem witness_RecordsReadAsWritten :
    (AdminBody.unknown 0x33).opcodeOk = true ∧
    (AdminBody.configureAxis 3 255 255 255 65535 65535 65535 65535 65535 255 255).opcodeOk = true ∧
    (let r := encodeSegment (record 1 1 1)
     let r' := r.set 3 0xF8 |>.set 4 0xF8 |>.set 5 0xFF |>.set 22 0xFF |>.set 31 0xFF
     r ≠ r' ∧ (∀ i < 22, i ≠ 3 → i ≠ 4 → i ≠ 5 → byteAt r i = byteAt r' i) ∧
      (byteAt r 3).extractLsb' 0 3 = (byteAt r' 3).extractLsb' 0 3 ∧
      (byteAt r 4).extractLsb' 0 3 = (byteAt r' 4).extractLsb' 0 3) ∧
    (let r := encodeCommand ⟨1, .stopAxis 3 1⟩
     let r' := r.set 3 0xFF |>.set 6 0xFF |>.set 31 0xFF
     r ≠ r' ∧ ∀ i ∈ [0, 1, 2] ++ argumentOffsets (byteAt r 2), byteAt r i = byteAt r' i) := by decide

/-- The numbers at the ends of their fields, and a TRIPPED axis's snapshot. -/
theorem witness_RecordsWrittenByTables :
    (let c : Completion := ⟨1, .axis 3, .ok, .none, .segment 65535 ⟨65535, 255, 255, 65535, 65535⟩⟩
     c.body = .segment 65535 ⟨65535, 255, 255, 65535, 65535⟩ ∧ 65535 < 65536 ∧ 255 < 256) ∧
    (let c : Completion := ⟨1, .admin, .ok, .trip .pin, .admin (.clearFault 77 3 65535)⟩
     c.body = .admin (.clearFault 77 3 65535)) ∧
    ((mixed.axis 1).tripRecord = some ⟨.underrun, 77, 0⟩ ∧ (mixed.axis 0).tripRecord = none) ∧
    ((mixed.axis 0).fifo.length < 256 ∧ (mixed.axis 0).consumer < 65536 ∧
      (mixed.axis 0).monitors.u.backlog < 4 ∧ (mixed.axis 0).stolenTotal < 65536) := by decide

/-- H at 64 with an URGENT leg and T_boot + D at 2H, and a compare equal to H. -/
theorem witness_ValleyLoadDerivesCompares :
    let x : Axis := { idle with
      config := { AxisConfig.reset with d := 10, m := 20, tBoot := 118 }
      shadowH := 64, shadow := ⟨64, 0, 32⟩, monitors := ⟨⟨0, 3, true⟩, .reset, .reset⟩ }
    LegalPeriod x.config x.shadowH ∧ (∀ l, x.shadow.get l ≤ x.shadowH) ∧
      ((x.monitors.get .u).urgent = true ∧ x.config.tBoot ≠ 0 ∧ x.config.m ≤ x.config.tBoot) :=
  ⟨by decide, fun l => by cases l <;> decide, by decide⟩

/-- At the end of precharge, with T_boot 0, and with a counter and a backlog at their limits. -/
theorem witness_MonitorAccountsForPeriod :
    (let x : Axis := { inState .precharge with prechargeIndex := 2 }
     x.state = .precharge ∧ x.config.np ≤ x.prechargeIndex + 1) ∧
    idle.config.tBoot = 0 ∧
    (let x : Axis := { playing 1 with
        config := { idle.config with tBoot := 200, r := 16 }, monitors := ⟨⟨15, 3, true⟩, .reset, .reset⟩ }
     ¬ (x.state = .precharge ∧ x.config.np ≤ x.prechargeIndex + 1) ∧ x.config.tBoot ≠ 0 ∧
      (x.monitors.get .u).requests < x.config.r ∧ (x.monitors.get .u).backlog ≤ 3) := by decide

/-! #### The laws every step keeps: a state that plays a segment with a read outstanding, in which every
law holds, and a step from it -/

/-- Axis 0 plays with its read outstanding, axis 1 is TRIPPED, axis 2 waits at group 2. -/
def alive : State :=
  let s0 := (((running.setAxis 0 (playing 1)).setAxis 1 tripped).setAxis 2
    { inState .waitRdv with
      arrival := some 2, fifo := [waiting 0x31 1 1], consumer := 0, producer := 0, ringSize := 0 }).setGroup 2
    { gathering with members := 0b0101, arrived := 0b0100 }
  let s : State := { s0 with
    admin := { running.admin with producer := 0 }
    comp := { running.comp with reservations := 3 }
    meas := { running.meas with queue := [⟨.axis 0, false, .convertingU⟩] }
    readTxn := some ⟨.axis 0, 0x4040, true, none⟩
    pending := [.imaskWrite 1] }
  { s with gates := Vector.ofFn fun a => Legs.of fun l => ⟨legDemand s a l, 0⟩ }

theorem witness_steps_from_alive : ∃ t, step alive = .next t := ⟨_, rfl⟩

theorem witness_SwitchesNeverShootThrough :
    ∃ t, step { alive with pending := [.deadTimeElapsed 0 .u] } = .next t := ⟨_, rfl⟩

theorem witness_StepsKeepMonitorsInRange : MonitorsInRange alive := by decide

theorem witness_StepsKeepTripRecords : TripRecordsMatch alive ∧
    (alive.axis 1).tripRecord = some ⟨.underrun, 77, 0⟩ := by decide

theorem witness_StepsKeepGroupsConsistent : GroupsConsistent alive := by decide

theorem witness_StepsKeepQueuesSound : QueuesSound alive := by decide

theorem witness_StepsKeepReservationLaw : ReservationLaw alive :=
  ⟨by decide, ⟨by decide, by decide, by intro t ht; cases ht; rfl⟩, by decide, by decide⟩

theorem witness_StepsLeaveNothingDue : NothingDue alive :=
  ⟨fun a l => by revert a; cases l <;> decide, by decide, by decide, by decide⟩

/-- With a head that has arrived (axis 2), and with one released that brings the least legal half-period. -/
theorem witness_StepsKeepPeriodsLegal :
    PeriodsLegal alive ∧ PeriodsLegal (withAxis { inState .waitRdv with
      released := true, fifo := [{ waiting 0x31 1 1 with newH := 71 }] }) := by
  constructor <;> intro a <;>
    refine ⟨by revert a; decide, by revert a; decide, by revert a; decide, by revert a; decide,
      by revert a; decide, by revert a; decide⟩

end Sys2Proof.Tests
end

section
/-! The queue engine (chapter 8): how the part judges a write of a ring index (R135, R162). Both rules ask
whether the value lies below the ring's size and compare two occupancies; `exec` computes these on naturals,
the statement takes differences modulo the size. -/

namespace Sys2Proof.Machine

/-! ### Occupancies as differences modulo the size (R134) -/

/-- The model adds the size before it subtracts the consumer index, so the natural subtraction cuts nothing
off as long as that index lies within the ring. -/
theorem occupancyOf_eq_emod {size consumer : Nat} (i : Nat) (h : consumer < size) :
    (occupancyOf size i consumer : Int) = ((i : Int) - consumer) % size := by
  have hsize : size ≠ 0 := by omega
  have hsub : ((i + size - consumer : Nat) : Int) = (i : Int) - consumer + size := by omega
  rw [occupancyOf, if_neg hsize, Int.natCast_emod, hsub, Int.add_emod_right]

theorem occupancyOf_lt_iff {size consumer : Nat} (i j : Nat) (h : consumer < size) :
    occupancyOf size i consumer < occupancyOf size j consumer ↔
      ((i : Int) - consumer) % size < ((j : Int) - consumer) % size := by
  rw [← occupancyOf_eq_emod i h, ← occupancyOf_eq_emod j h, Nat.cast_lt]

/-- A value below the size exists only in a configured ring, where the consumer index lies within it. An
unconfigured ring refuses every value, so its occupancies need not be compared. -/
theorem outside_or_occupancyOf_lt_iff {size producer consumer : Nat} (v i j : Nat)
    (h : RingOk size producer consumer) :
    (size ≤ v ∨ occupancyOf size i consumer < occupancyOf size j consumer) ↔
      (size ≤ v ∨ ((i : Int) - consumer) % size < ((j : Int) - consumer) % size) := by
  refine or_congr_right' fun hv => occupancyOf_lt_iff i j ?_
  rcases h with ⟨_, hc⟩ | ⟨hsize, _⟩
  · exact hc
  · omega

/-! ### The two writes of a live part -/

theorem writeProducer_of_live {s : State} (ring : RingId) (value : Word) {size producer consumer : Nat}
    (hl : s.live = true) (hi : ringIndices s ring = (size, producer, consumer)) :
    writeProducer ring value s =
      if size ≤ value.toNat ∨
          occupancyOf size value.toNat consumer < occupancyOf size producer consumer
      then faulted 14 s else setProducer s value.toNat ring := by
  simp only [writeProducer, hi, hl, Bool.not_true, Bool.false_eq_true, if_false, recordFault_eq,
    FaultBit.position, ite_or]

theorem writeCcons_of_live {s : State} (value : Word) (hl : s.live = true) :
    writeCcons value s =
      if s.comp.ringSize ≤ value.toNat ∨ occupancyOf s.comp.ringSize s.comp.producer s.comp.consumer <
          occupancyOf s.comp.ringSize value.toNat s.comp.consumer
      then faulted 14 s else { s with comp := { s.comp with consumer := value.toNat } } := by
  simp only [writeCcons, CompletionUnit.posted, hl, Bool.not_true, Bool.false_eq_true, if_false,
    recordFault_eq, FaultBit.position, ite_or]

theorem steady_setProducer {s : State} (v : Nat) (ring : RingId) (h : Steady s) :
    Steady (setProducer s v ring) := by
  cases ring <;> exact h

/-- An index write that the ring refuses under `q`, which is `p` in the words of the rule: refused it records
INDEX and nothing else, taken it leaves `u`. -/
theorem index_write_judged {s u : State} {o : Host.Outcome State Fault Refusal} {p q : Prop} [Decidable q]
    (hp : q ↔ p) (ho : o = .next (settle (if q then faulted 14 s else u))) (hs : Steady s) (hu : Steady u) :
    (p → ∃ t, o = .next t ∧ Settles (faulted 14 s) t) ∧ (¬ p → ∃ t, o = .next t ∧ Settles u t) := by
  rw [← hp]
  constructor
  · intro refused
    exact next_of_settle ho hs (if_pos refused)
  · intro taken
    exact next_of_settle ho hu (if_neg taken)

/-- R135 at any ring: a producer index write is judged by the ring's size and occupancy. -/
theorem producerIndexWrite_judged {s : State} (ring : RingId) (value : Word) {size producer consumer : Nat}
    (hl : s.live = true) (hs : Steady s) (hi : ringIndices s ring = (size, producer, consumer))
    (hr : RingOk size producer consumer) :
    let retracts := size ≤ value.toNat ∨
      ((value.toNat : Int) - consumer) % size < ((producer : Int) - consumer) % size
    (retracts → ∃ t, exec (.producerIndexWrite ring value) s = .next t ∧ Settles (faulted 14 s) t) ∧
    (¬ retracts → ∃ t, exec (.producerIndexWrite ring value) s = .next t ∧
      Settles (setProducer s value.toNat ring) t) := by
  refine index_write_judged (outside_or_occupancyOf_lt_iff _ _ _ hr) ?_ hs (steady_setProducer _ ring hs)
  rw [← writeProducer_of_live ring value hl hi]
  rfl

/-- R162: a CCONS write is judged by the completion ring's size and its posted-unconsumed completions. -/
theorem cconsWrite_judged {s : State} (value : Word) (hl : s.live = true) (hs : Steady s)
    (hr : RingOk s.comp.ringSize s.comp.producer s.comp.consumer) :
    let passes := s.comp.ringSize ≤ value.toNat ∨
      ((s.comp.producer : Int) - s.comp.consumer) % s.comp.ringSize <
        ((value.toNat : Int) - s.comp.consumer) % s.comp.ringSize
    (passes → ∃ t, exec (.cconsWrite value) s = .next t ∧ Settles (faulted 14 s) t) ∧
    (¬ passes → ∃ t, exec (.cconsWrite value) s = .next t ∧
      Settles { s with comp := { s.comp with consumer := value.toNat } } t) := by
  refine index_write_judged (outside_or_occupancyOf_lt_iff _ _ _ hr) ?_ hs hs
  rw [← writeCcons_of_live value hl]
  rfl

/-- Settles O11: the three clauses are R135 at an axis ring, R135 at the administrative ring, and R162. -/
theorem ringIndexWritesAreJudged : Obligations.RingIndexWritesAreJudged := by
  intro s value hl hs
  refine ⟨fun a hr => ?_, fun hr => ?_, fun hr => ?_⟩
  · exact producerIndexWrite_judged (.axis a) value hl hs rfl hr
  · exact producerIndexWrite_judged .admin value hl hs rfl hr
  · exact cconsWrite_judged value hl hs hr

end Sys2Proof.Machine
end

section
/-! The interrupt registers and the line IRQn (section 9.8): the line answers each cause's own enable (R167),
and each of the two writes changes one register alone. -/

namespace Sys2Proof.Machine

/-- The line compares a whole register with 0, the rule asks for one bit of it. -/
theorem bitVec_ne_zero_iff_exists_getLsbD {n : Nat} (x : BitVec n) :
    x ≠ 0 ↔ ∃ i < n, x.getLsbD i = true := by
  have some_bit : x ≠ 0 ↔ ∃ i, x.getLsbD i = true :=
    (not_congr BitVec.zero_iff_eq_false).trans (by simp only [not_forall, Bool.not_eq_false])
  rw [some_bit]
  exact exists_congr fun _ => (and_iff_right_of_imp BitVec.lt_of_getLsbD).symm

theorem irqLow_iff (s : State) :
    s.irqLow = true ↔ ∃ i < 6, s.icause.getLsbD i = true ∧ s.imask.getLsbD i = true := by
  simp only [State.irqLow, bne_iff_ne, bitVec_ne_zero_iff_exists_getLsbD, BitVec.getLsbD_and,
    Bool.and_eq_true]

/-- An IMASK write changes IMASK alone, to the low six bits of the value where the part takes the write. -/
theorem writeImask_eq (value : Word) (s : State) :
    writeImask value s =
      { s with imask := if s.live = true then value.extractLsb' 0 6 else s.imask } := by
  unfold writeImask
  split <;> rfl

/-- An ICAUSE write changes ICAUSE alone. -/
theorem writeIcause_eq (value : Word) (s : State) :
    writeIcause value s =
      { s with icause := if s.live = true then s.icause &&& ~~~ value.extractLsb' 0 6 else s.icause } := by
  unfold writeIcause
  split <;> rfl

theorem exec_imaskWrite (value : Word) (s : State) :
    exec (.imaskWrite value) s = .next (writeImask value s) := rfl

theorem exec_icauseWrite (value : Word) (s : State) :
    exec (.icauseWrite value) s = .next (writeIcause value s) := rfl

/-- Each enable after an IMASK write is the bit written to it, where the part takes the write. -/
theorem getLsbD_imask_writeImask (value : Word) (s : State) {i : Nat} (hi : i < 6) :
    (writeImask value s).imask.getLsbD i =
      if s.live = true then value.getLsbD i else s.imask.getLsbD i := by
  rw [writeImask_eq]
  split
  · simp [hi]
  · rfl

theorem readWindow_icause {s : State} (hr : s.resetLow = false) :
    readWindow s 0x28 = s.icause.setWidth 32 := by
  rw [readWindow, hr]
  rfl

/-- Settles O12: the line is the bitwise meeting of causes and enables, each write changes its own register,
and ICAUSE reads as the causes whatever IMASK holds. -/
theorem interruptRegistersAndLine : Obligations.InterruptRegistersAndLine := by
  intro s value
  refine ⟨irqLow_iff s, ⟨_, exec_imaskWrite value s, ?_, ?_⟩, ⟨_, exec_icauseWrite value s, ?_⟩, ?_⟩
  · rw [writeImask_eq]
  · intro i hi
    exact getLsbD_imask_writeImask value s hi
  · rw [writeIcause_eq]
  · intro hr i hi
    have hi32 : i < 32 := by omega
    rw [readWindow_icause hr, BitVec.getLsbD_setWidth, decide_eq_true hi32, Bool.true_and]

end Sys2Proof.Machine
end

section
/-! What every step leaves settled (log entry 20): the legs follow their demands, no read or write waits at a
free channel, and no quiesce or soft reset outlasts its end. -/

namespace Sys2Proof.Machine

/-! ### Rows that settle their event, and rows that need not -/

/-- Every row answers a settled state, but the release of a trip pin, which changes a level that no
arbiter and no demand reads, and the rows that change the interrupt registers or the fault summary alone. -/
theorem exec_settles_or {c : Instr} {s t : State} (h : exec c s = .next t) :
    (∃ u, t = settle u) ∨ (∃ a, t = pinBecomesInactive a s) ∨
      ∃ icause imask fsum busRead,
        t = { s with icause := icause, imask := imask, fsum := fsum, busRead := busRead } := by
  cases c
  case tripPinInactive a => cases h; exact .inr (.inl ⟨a, rfl⟩)
  case icauseWrite v =>
    cases h; rw [writeIcause_eq]; exact .inr (.inr ⟨_, s.imask, s.fsum, s.busRead, rfl⟩)
  case imaskWrite v =>
    cases h; rw [writeImask_eq]; exact .inr (.inr ⟨s.icause, _, s.fsum, s.busRead, rfl⟩)
  case fsumRead lane width => cases h; exact .inr (.inr ⟨s.icause, s.imask, 0, _, rfl⟩)
  case registerWriteIgnored offset narrow =>
    cases h
    refine .inr (.inr ?_)
    unfold ignoreWrite
    split
    · rw [recordFault_eq]; exact ⟨_, s.imask, _, s.busRead, rfl⟩
    · exact ⟨s.icause, s.imask, s.fsum, s.busRead, rfl⟩
  case lateResponse channel => cases h; exact .inr (.inr ⟨s.icause, s.imask, s.fsum, s.busRead, rfl⟩)
  all_goals exact .inl ⟨_, (Host.Outcome.next.inj h).symm⟩

/-! ### What `settle` leaves -/

theorem steady_endResetting_endQuiesce (s : State) : Steady (endResetting (endQuiesce s)) := by
  have quiesced : (endQuiesce s).part = .quiescing → (endQuiesce s).comp.reservations ≠ 0 := by
    unfold endQuiesce
    split
    · simp
    · next h => exact fun hq hr => h ⟨hq, hr⟩
  unfold endResetting
  split
  · exact ⟨by simp [resetBlocks, State.reset], by simp [resetBlocks, State.reset]⟩
  · next h =>
    refine ⟨quiesced, fun hp => ?_⟩
    by_contra hn
    simp only [not_or, ne_eq, Decidable.not_not] at hn
    exact h ⟨hp, hn⟩

/-- The read arbiter's choice reads nothing that a write issue or a demand changes. -/
theorem arbiterChoice_refreshGates_issueWrite (s : State) :
    arbiterChoice (refreshGates (issueWrite s)) = arbiterChoice s := by
  rw [issueWrite_eq]; rfl

theorem readTxn_ne_none_of_issueReadOf (ring : RingId) (s : State) : (issueReadOf ring s).readTxn ≠ none := by
  cases ring <;> exact Option.some_ne_none _

/-- A free read channel at the end of an event has nothing to read (R141). -/
theorem arbiterChoice_settle {s : State} (h : (settle s).readTxn = none) : arbiterChoice (settle s) = none := by
  unfold settle at h ⊢
  rw [arbiterChoice_refreshGates_issueWrite]
  rw [issueWrite_eq] at h
  rcases issueRead_cases (endResetting (endQuiesce s)) with ⟨he, hc⟩ | ⟨ring, _, _, he⟩
  · rw [he] at h ⊢
    exact hc.resolve_left fun hr => hr h
  · rw [he] at h
    exact absurd h (readTxn_ne_none_of_issueReadOf ring _)

/-- A free write channel at the end of an event has nothing to write (R158, R188). -/
theorem no_claimant_of_issueWrite {s : State} (hw : (issueWrite s).writeTxn = none)
    (hf : (issueWrite s).part ≠ .failed) (hr : (issueWrite s).part ≠ .resetting) :
    (issueWrite s).comp.queue = [] ∧ ∀ w ∈ (issueWrite s).admin.snapshot, w.issued = true := by
  rcases issueWrite_cases s with ⟨he, h⟩ | ⟨_, _, _, _, _, _, _, he⟩ | ⟨_, _, _, _, _, _, _, he⟩
  · rw [he] at hw hf hr ⊢
    exact ((h.resolve_left fun k => k hw).resolve_left hr).resolve_left hf
  · rw [he] at hw; exact absurd hw (Option.some_ne_none _)
  · rw [he] at hw; exact absurd hw (Option.some_ne_none _)

theorem steady_refreshGates_issueWrite_issueRead {s : State} (h : Steady s) :
    Steady (refreshGates (issueWrite (issueRead s))) := by
  have hs := settles_settle h
  rw [settle_of_steady h] at hs
  have part : (refreshGates (issueWrite (issueRead s))).part = s.part := by rw [hs.frame]
  refine ⟨fun hq => ?_, fun hp => ?_⟩
  · rw [hs.reservations]
    have := h.1 (part ▸ hq)
    omega
  · rw [part] at hp
    rw [hs.readTxn, hs.writeTxn, readIssued, writeIssued, if_neg fun k : WriteFree s => k.2.2 hp]
    rcases h.2 hp with hr | hw
    · left; simp [servedRing, hr]
    · exact .inr hw

/-- The end of an event leaves nothing due, whatever the event. -/
theorem nothingDue_settle (s : State) : NothingDue (settle s) := by
  refine ⟨fun a k => ?_, arbiterChoice_settle, fun hw hf hr => no_claimant_of_issueWrite hw hf hr,
    steady_refreshGates_issueWrite_issueRead (steady_endResetting_endQuiesce s)⟩
  have : (settle s).gate a k = _ := gate_refreshGates _ a k
  rw [this, Gate.follow]
  split
  · assumption
  · rfl

/-! ### The rows that do not settle -/

/-- The level of a trip pin is read by no arbiter, no channel and no demand. -/
theorem nothingDue_setPin {s : State} (a : AxisId) (level : Bool) (h : NothingDue s) :
    NothingDue (s.setAxis a { s.axis a with pinActive := level }) := by
  obtain ⟨gates, read, write, steady⟩ := h
  have axis : ∀ b, (s.setAxis a { s.axis a with pinActive := level }).axis b =
      { s.axis b with pinActive := if b = a then level else (s.axis b).pinActive } := by
    intro b
    rw [axis_setAxis]
    split
    · next hb => rw [hb]
    · rfl
  refine ⟨fun b k => (gates b k).trans ?_, fun hr => (read hr) ▸ ?_, write, steady⟩
  · simp only [legDemand, axis]; rfl
  · unfold arbiterChoice State.axisEligible State.adminEligible State.activeAxis State.placesTaken
    simp only [axis]; rfl

theorem nothingDue_exec {c : Instr} {s t : State} (hs : NothingDue s) (h : exec c s = .next t) :
    NothingDue t := by
  rcases exec_settles_or h with ⟨u, rfl⟩ | ⟨a, rfl⟩ | ⟨_, _, _, _, rfl⟩
  · exact nothingDue_settle u
  · exact nothingDue_setPin a false hs
  · exact hs

theorem nothingDue_tick {s : State} (hs : NothingDue s) : NothingDue (tick s) := by
  unfold tick
  split
  · exact hs
  · exact takeInOrder_keeps _ (fun _ _ h => h) (fun _ _ _ => nothingDue_settle _) _ _ _ (nothingDue_settle _)

/-- Settles O59: a step is a tick or a row, and either ends settled or changes nothing that could fall due. -/
theorem stepsLeaveNothingDue : Obligations.StepsLeaveNothingDue := by
  intro s t hs h
  unfold step at h
  split at h
  · cases h; exact nothingDue_tick hs
  · next c rest _ => exact nothingDue_exec (s := { s with pending := rest }) hs h

end Sys2Proof.Machine
end

section
/-! What an event is made of. Every event of the part is a chain of small changes (`Micro`): an axis moves, a
group is left, a read or a write begins or ends, a command is executed. Each law of the part is then proved
against the small changes alone, and the chain of every step is exhibited once. -/

namespace Sys2Proof.Machine

/-! ### What the laws speak of -/

/-- `t` is `s` in all that the laws of the part speak of, but that `n` pieces of admitted work have been handed
over as completions or have released their reservations (R4, R140, R157, R161). -/
structure Retires (n : Nat) (s t : State) : Prop where
  part : t.part = s.part
  axes : t.axes = s.axes
  gates : t.gates = s.gates
  groups : ∀ g, (t.group g).members = (s.group g).members ∧ (t.group g).state = (s.group g).state ∧
    (t.group g).arrived = (s.group g).arrived
  requests : t.meas.queue.map (fun q => (q.source, q.progress)) =
    s.meas.queue.map fun q => (q.source, q.progress)
  adminState : t.admin.state = s.admin.state
  current : t.admin.current = s.admin.current
  snapshot : t.admin.snapshot.isSome = s.admin.snapshot.isSome
  adminRing : (t.admin.ringSize, t.admin.producer, t.admin.consumer) =
    (s.admin.ringSize, s.admin.producer, s.admin.consumer)
  read : t.readTxn.map (fun r => (r.ring, r.reserved)) = s.readTxn.map fun r => (r.ring, r.reserved)
  ringSize : t.comp.ringSize = s.comp.ringSize
  producer : t.comp.producer = s.comp.producer
  consumer : t.comp.consumer = s.comp.consumer
  ledger : ∃ handed released, handed + released ≤ n ∧ (s.comp.ringSize ≠ 0 → handed + released = n) ∧
    t.comp.queue.length = s.comp.queue.length + handed ∧
    t.comp.reservations = s.comp.reservations - released

/-- What the laws of the part speak of, but the completions that wait and the reservations held. -/
def State.governed (s : State) :=
  (s.part, s.axes, s.gates, s.groups, s.meas.queue, s.admin.state, s.admin.current, s.admin.snapshot,
    (s.admin.ringSize, s.admin.producer, s.admin.consumer), s.readTxn, s.comp.ringSize, s.comp.producer,
    s.comp.consumer)

namespace Retires

/-- What the laws speak of is as it was, and n pieces of work have left the ledger. -/
theorem of_ledger {n : Nat} {s t : State} (h : t.governed = s.governed)
    (ledger : ∃ handed released, handed + released ≤ n ∧ (s.comp.ringSize ≠ 0 → handed + released = n) ∧
      t.comp.queue.length = s.comp.queue.length + handed ∧ t.comp.reservations = s.comp.reservations - released) :
    Retires n s t := by
  simp only [State.governed, Prod.mk.injEq] at h
  obtain ⟨part, axes, gates, groups, queue, state, current, snapshot, ⟨size, admin⟩, read, ring, producer, consumer⟩ := h
  exact ⟨part, axes, gates, fun g => by rw [group_congr groups g]; exact ⟨rfl, rfl, rfl⟩, by rw [queue], state, current,
    by rw [snapshot], by rw [size, admin.1, admin.2], by rw [read], ring, producer, consumer, ledger⟩

theorem axis {n : Nat} {s t : State} (h : Retires n s t) (a : AxisId) : t.axis a = s.axis a :=
  axis_congr h.axes a

/-- What the laws speak of, and the pending completions with their reservations, is as it was. -/
theorem of_governed {s t : State} (h : t.governed = s.governed) (hq : t.comp.queue = s.comp.queue)
    (hr : t.comp.reservations = s.comp.reservations) : Retires 0 s t :=
  of_ledger h ⟨0, 0, le_refl 0, fun _ => rfl, by rw [hq]; rfl, by rw [hr]; rfl⟩

theorem refl (s : State) : Retires 0 s s := of_governed rfl rfl rfl

theorem trans {n m : Nat} {s t u : State} (h : Retires n s t) (k : Retires m t u) :
    Retires (n + m) s u where
  part := k.part.trans h.part
  axes := k.axes.trans h.axes
  gates := k.gates.trans h.gates
  groups g := by
    obtain ⟨h1, h2, h3⟩ := h.groups g
    obtain ⟨k1, k2, k3⟩ := k.groups g
    exact ⟨k1.trans h1, k2.trans h2, k3.trans h3⟩
  requests := k.requests.trans h.requests
  adminState := k.adminState.trans h.adminState
  current := k.current.trans h.current
  snapshot := k.snapshot.trans h.snapshot
  adminRing := k.adminRing.trans h.adminRing
  read := k.read.trans h.read
  ringSize := k.ringSize.trans h.ringSize
  producer := k.producer.trans h.producer
  consumer := k.consumer.trans h.consumer
  ledger := by
    obtain ⟨a, b, hle, heq, hq, hr⟩ := h.ledger
    obtain ⟨c, d, kle, keq, kq, kr⟩ := k.ledger
    refine ⟨a + c, b + d, by omega, fun hz => ?_, by omega, by omega⟩
    have := heq hz
    have := keq (h.ringSize ▸ hz)
    omega

/-- Fields of which no law speaks may change. -/
theorem of_frame (s : State) (resetLow : Bool) (icause imask : BitVec 6) (fsum : BitVec 16) (timebase : Word)
    (subTick : Nat) (busRead : Word) (emergency ovFlag uvFlag : Bool) (elapsed ovRun uvRun : Nat)
    (busTimer : Option Nat) (globals : Globals) (coalescingCount : Nat) (coalescingTimer : Option Nat)
    (writeTxn : Option WriteTxn) (arbiter : AxisId) (reports : List Report) (freeCount : Nat)
    (pending : List Instr) :
    Retires 0 s { s with
      resetLow := resetLow, icause := icause, imask := imask, fsum := fsum, timebase := timebase
      subTick := subTick, busRead := busRead, emergency := emergency, ovFlag := ovFlag, uvFlag := uvFlag
      meas := { s.meas with elapsed := elapsed, ovRun := ovRun, uvRun := uvRun, busTimer := busTimer }
      globals := globals
      comp := { s.comp with coalescingCount := coalescingCount, coalescingTimer := coalescingTimer }
      writeTxn := writeTxn, arbiter := arbiter, reports := reports, freeCount := freeCount
      pending := pending } := of_governed rfl rfl rfl

/-! ### The operations that retire work, and those that change nothing the laws speak of -/

theorem bookkeeping (s : State) (reports : List Report) (freeCount : Nat) :
    Retires 0 s { s with reports := reports, freeCount := freeCount } := of_governed rfl rfl rfl

theorem report (s : State) (c : TripCause) (l : List AxisId) : Retires 0 s (report c l s) :=
  bookkeeping s _ s.freeCount

theorem raise (s : State) (c : Cause) : Retires 0 s (raise c s) := of_governed rfl rfl rfl

theorem recordFault (s : State) (b : FaultBit) : Retires 0 s (recordFault b s) := by
  rw [recordFault_eq]
  exact of_governed rfl rfl rfl

theorem markStale (s : State) (a : AxisId) : Retires 0 s (markStale a s) := by
  refine { refl s with requests := ?_ }
  simp only [Machine.markStale, List.map_map]
  refine List.map_congr_left fun q _ => ?_
  simp only [Function.comp_apply]
  split <;> rfl

theorem releaseReservations (s : State) (n : Nat) : Retires n s (releaseReservations n s) :=
  of_ledger rfl ⟨0, n, (Nat.zero_add n).le, fun _ => Nat.zero_add n, rfl, rfl⟩

/-- With no ring configured completions are discarded, and no work is then admitted (R157, R176). -/
theorem handOff (s : State) (cs : List Completion) : Retires cs.length s (handOff cs s) := by
  unfold Machine.handOff
  split
  · next hz => exact of_ledger rfl ⟨0, 0, Nat.zero_le _, fun hn => absurd hz hn, rfl, rfl⟩
  · split
    · exact releaseReservations s _
    · exact of_ledger rfl ⟨cs.length, 0, le_refl _, fun _ => rfl, List.length_append, rfl⟩

theorem completeOk (s : State) (a : AxisId) (seg : Segment) (k : Nat) (st : Stats) :
    Retires 1 s (completeOk a seg k st s) := by
  unfold Machine.completeOk
  split
  · exact releaseReservations s 1
  · exact handOff s [_]

/-! ### Work retired commutes with what it does not read -/

theorem setAxis {n : Nat} {s t : State} (h : Retires n s t) (a : AxisId) (x : Axis) :
    Retires n (s.setAxis a x) (t.setAxis a x) :=
  { h with axes := by simp only [State.setAxis, h.axes] }

theorem setGroups {n : Nat} {s t : State} (h : Retires n s t) (G : Vector Group 8) :
    Retires n { s with groups := G } { t with groups := G } :=
  { h with groups := fun _ => ⟨rfl, rfl, rfl⟩ }

theorem setHalt {n : Nat} {s t : State} (h : Retires n s t) (state : AdminState) (reason : HaltReason) :
    Retires n { s with admin := { s.admin with state := state, haltReason := reason } }
      { t with admin := { t.admin with state := state, haltReason := reason } } :=
  { h with adminState := rfl }

end Retires

/-! ### What a small change makes of one axis -/

/-- `x'` is `x` in all of an axis that the laws speak of; the carrier of an active axis may have moved. -/
structure Axis.Alike (x x' : Axis) : Prop where
  state : x'.state = x.state
  config : x'.config = x.config
  active : x'.active.isSome = x.active.isSome
  staged : x'.staged = x.staged
  arrival : x'.arrival = x.arrival
  released : x'.released = x.released
  pendingStop : x'.pendingStop = x.pendingStop
  releaseSent : x'.releaseSent = x.releaseSent
  shadowH : x'.shadowH = x.shadowH
  workH : x'.workH = x.workH
  monitors : x'.monitors = x.monitors
  stolenTotal : x'.stolenTotal = x.stolenTotal
  ring : (x'.ringSize, x'.producer, x'.consumer) = (x.ringSize, x.producer, x.consumer)
  fifo : x'.fifo = x.fifo
  tripRecord : x'.tripRecord = x.tripRecord
  carrier : x.state.isActive = true ∨ x'.carrierCount = x.carrierCount

/-- What the laws speak of in an axis, but the presence of an active segment and the carrier. -/
def Axis.governed (x : Axis) :=
  (x.state, x.config, x.staged, x.arrival, x.released, x.pendingStop, x.releaseSent, x.shadowH, x.workH, x.monitors,
    x.stolenTotal, (x.ringSize, x.producer, x.consumer), x.fifo, x.tripRecord)

theorem Axis.Alike.of_governed {x x' : Axis} (h : x'.governed = x.governed) (ha : x'.active.isSome = x.active.isSome)
    (hc : x.state.isActive = true ∨ x'.carrierCount = x.carrierCount) : x.Alike x' := by
  simp only [Axis.governed, Prod.mk.injEq] at h
  obtain ⟨state, config, staged, arrival, released, stop, sent, shadow, work, monitors, stolen, ⟨size, ring⟩, fifo,
    record⟩ := h
  exact ⟨state, config, ha, staged, arrival, released, stop, sent, shadow, work, monitors, stolen,
    by rw [size, ring.1, ring.2], fifo, record, hc⟩

/-- The axis may examine its FIFO: it plays, no head has arrived and nothing is staged (R11, R23, R80). That
nothing is staged where a release lets the examination resume is known only of an axis that holds what its
state lets it hold, which is what `ok` claims of the axes. -/
structure Axis.Examining (ok : Prop) (x : Axis) : Prop where
  active : x.state.isActive = true
  playing : x.state ≠ .waitRdv
  staged : ok → x.staged = none
  arrival : x.arrival = none

/-- The axis after the closing completion of its active segment, if it is in RUN (R14, R29). -/
def Axis.closed (x : Axis) : Axis := if x.state = .run then { x with active := none } else x

/-- How many completions the closing of the active segment makes. -/
def Axis.closes (x : Axis) : Nat := if x.state = .run then x.active.toList.length else 0

/-- Nothing is staged and no stop is pending at a boundary valley (R29, cases 3 to 5). -/
structure Axis.Unstaged (x : Axis) : Prop where
  active : x.state.isActive = true
  pendingStop : x.pendingStop = none
  staged : x.staged = none

/-- What an event makes of one axis of itself, with the number of pieces of work it retires. -/
inductive Axis.Move (ok : Prop) (x : Axis) : Axis → Nat → Prop
  | minor {x' : Axis} : x.Alike x' → x.Move ok x' 0
  | account : x.state.isActive = true → x.Move ok { x.account with carrierCount := 0, rising := true } 0
  | load : x.state.isActive = true → x.Move ok x.load 0
  | producer {v : Nat} : v < x.ringSize → x.Move ok { x with producer := v } 0
  | stage {seg rest} : x.Examining ok → x.fifo = seg :: rest → seg.isMark = false → seg.PeriodOk x.config →
      x.Move ok ((x.popped rest).stage seg) 0
  | stageReleased {seg rest} : x.state = .waitRdv → x.released = true → x.fifo = seg :: rest →
      x.Move ok { (x.popped rest).stage seg with released := false } 0
  | mark {seg rest} : x.Examining ok → x.fifo = seg :: rest →
      x.Move ok { x.popped rest with endPermission := seg.endOk } 1
  | joins {seg rest g} : x.Examining ok → x.fifo = seg :: rest → (seg.isMark = true ∨ seg.PeriodOk x.config) →
      x.Move ok { x with arrival := some g } 0
  | releaseLost : x.releaseSent = true → x.Move ok { x with releaseSent := false } 0
  | releaseStage {g seg rest} : x.arrival = some g → x.fifo = seg :: rest → x.state.isActive = true →
      x.state ≠ .waitRdv → seg.isMark = false →
      x.Move ok ((({ x with releaseSent := false, arrival := none } : Axis).popped rest).stage seg) 0
  | releaseMark {g seg rest} : x.arrival = some g → x.fifo = seg :: rest → x.state.isActive = true →
      x.state ≠ .waitRdv →
      x.Move ok { x with releaseSent := false, arrival := none, fifo := rest, endPermission := seg.endOk } 1
  | releaseMarkWait {g seg rest} : x.arrival = some g → x.fifo = seg :: rest → x.state = .waitRdv →
      x.Move ok { x with
        releaseSent := false, arrival := none, fifo := rest, endPermission := seg.endOk
        state := .starved, grace := 0 } 1
  | releaseHeadWait {g seg rest} : x.arrival = some g → x.fifo = seg :: rest → x.state = .waitRdv →
      seg.isMark = false →
      x.Move ok { x with releaseSent := false, arrival := none, released := true } 0
  | activate {seg} : x.state.isActive = true → x.staged = some seg →
      x.Move ok (x.closed.activate seg) x.closes
  | wait : x.Unstaged → (x.arrival.isSome = true ∨ x.state = .waitRdv) →
      x.Move ok { x.closed with state := .waitRdv, grace := 0 } x.closes
  | runEnd : x.Unstaged → x.arrival = none → x.Move ok (x.closed.stopped .idle) (x.closes + x.fifo.length)
  | grace {k : Nat} : x.Unstaged → x.arrival = none → x.state ≠ .waitRdv →
      x.Move ok { x.closed with state := .starved, grace := k } x.closes
  | stop : x.state.isActive = true → x.pendingStop.isSome = true →
      x.Move ok (x.closed.stopped .idle).skipped (x.closes + x.staged.toList.length + x.fifo.length + 1)
  | stopNow : x.state.isActive = true → x.Move ok (x.stopped .idle).skipped x.workHeld
  | trip {cause now} : x.state.isActive = true → x.Move ok (x.trip cause now) x.workHeld
  | later {cause} : x.Move ok { x with tripRecord := x.tripRecord.map (·.addLater cause) } 0

/-- What a command makes of one axis but for a stop; a refused one leaves it. -/
inductive Axis.Ordered (x : Axis) : Axis → Prop
  | same : x.Ordered x
  | setRing {base size} : 0 < size → x.Ordered (x.setRing base size)
  | configure {cfg} : x.state = .idle → LegalPeriod cfg cfg.h → 0 < cfg.r → x.Ordered (x.configure cfg)
  | start : x.state = .idle → x.Ordered x.start
  | clear : x.state = .tripped → x.Ordered x.clear
  | clearSkipped : x.state = .tripped → x.Ordered x.clear.skipped

/-- What becomes of the group table where axis a becomes x' (R80 to R90). -/
inductive Regroups (s : State) (a : AxisId) (x' : Axis) : Vector Group 8 → Prop
  | stays : x'.arrival = (s.axis a).arrival → x'.releaseSent = (s.axis a).releaseSent →
      Regroups s a x' s.groups
  | released : (s.axis a).releaseSent = true → x'.releaseSent = false → Regroups s a x' s.groups
  | ended : (s.axis a).arrival = none → x'.arrival = none → x'.releaseSent = false →
      Regroups s a x' s.groups
  | departs : x'.arrival = none → x'.releaseSent = false → Regroups s a x' (depart a s).groups
  | breaks : x'.arrival = none → x'.releaseSent = false → Regroups s a x' (breakGroups a s).groups
  | joins {g timer} : (s.axis a).arrival = none → x'.arrival = some g →
      x'.releaseSent = (s.axis a).releaseSent → hasAxis (s.group g).members a = true →
      Regroups s a x' (s.setGroup g { s.group g with
        state := .gathering, arrived := (s.group g).arrived ||| axisBit a, timer := timer }).groups

/-! ### The small changes of the part -/

/-- The small changes of which an event is made once it has begun. -/
inductive Micro (ok : Prop) : State → State → Prop
  | quiet {s t} : Retires 0 s t → Micro ok s t
  | refresh {s} : Micro ok s (refreshGates s)
  | move {s t a x' n G} : (s.axis a).Move ok x' n → Regroups s a x' G →
      Retires n { s.setAxis a x' with groups := G } t → Micro ok s t
  | completes {s a g} : Micro ok s (((axesOf ((s.group g).arrived ||| axisBit a)).filter (· ≠ a)).foldl
        (fun s b => sendRelease b s) (s.setGroup g (s.group g).afterRelease))
  | clears {s g y} : y.arrived = 0 → Micro ok s (s.setGroup g y)
  | executes {s u a x' n G} : s.admin.state = .executing → s.admin.current.isSome = true →
      ((s.axis a).Ordered x' ∧ n = 0 ∨ (s.axis a).Move ok x' n) → Regroups s a x' G →
      Retires (n + 1) { s.setAxis a x' with groups := G } u → Micro ok s (endExecution u)
  | pends {s a tag} : s.admin.current.isSome = true → s.activeAxis a = true →
      (s.axis a).pendingStop = none →
      Micro ok s (endExecution (s.setAxis a { s.axis a with pendingStop := some tag }))
  | forms {s w} : s.admin.current.isSome = true →
      Micro ok s { s with admin := { s.admin with snapshot := some w } }
  | answers {s u} : s.admin.snapshot.isSome = true → Retires 1 s u → Micro ok s (endExecution u)
  | ringMoves {s base size done} : s.admin.current.isSome = true → s.comp.ringSize ≠ 0 →
      completionRingFree s = true → 4 ≤ size →
      Micro ok s (endExecution { s with comp := { s.comp.moveTo base size with
        queue := s.comp.queue ++ [done] } })
  | rests {s t state reason} : s.admin.state ≠ .executing → s.admin.state ≠ .fetching →
      state ≠ .executing → state ≠ .fetching →
      Retires 0 { s with admin := { s.admin with state := state, haltReason := reason } } t → Micro ok s t
  | issuesAxis {s a} : s.readTxn = none → s.axisEligible a = true → Micro ok s (issueReadOf (.axis a) s)
  | issuesAdmin {s} : s.readTxn = none → s.adminEligible = true → Micro ok s (issueReadOf .admin s)
  | places {s r a seg} : s.readTxn = some r → r.ring = .axis a → s.activeAxis a = true →
      Micro ok s ({ s with readTxn := none }.modAxis a fun x =>
        { x with fifo := x.fifo ++ [seg], consumer := nextIndex x.ringSize x.consumer })
  | readEnds {s t r a} : s.readTxn = some r → r.ring = .axis a →
      Retires r.reserved.toNat { s with readTxn := none } t → Micro ok s t
  | adminReadEnds {s t r state reason n} : s.readTxn = some r → r.ring = .admin →
      state ≠ .executing → state ≠ .fetching → (n = r.reserved.toNat ∨ n = 0 ∧ s.comp.ringSize = 0) →
      Retires n { s with readTxn := none
                         admin := { s.admin with state := state, haltReason := reason } } t → Micro ok s t
  | discardsRead {s} : s.part = .resetting → Micro ok s { s with readTxn := none }
  | posts {s t c rest} : s.comp.queue = c :: rest →
      Retires 0 (releaseReservations 1 { s with comp := { s.comp.advance with queue := rest } }) t →
      Micro ok s t
  | discards {s} : Micro ok s (discardPending s)
  | consumes {s v} : v < s.comp.ringSize →
      occupancyOf s.comp.ringSize v s.comp.consumer ≤ s.comp.posted →
      Micro ok s { s with comp := { s.comp with consumer := v } }
  | adminRing {s t base size producer consumer} : RingOk size producer consumer →
      Retires 0 { s with admin := { s.admin with
        ringBase := base, ringSize := size, producer := producer, consumer := consumer } } t → Micro ok s t
  | adminProduces {s v} : v < s.admin.ringSize → Micro ok s { s with admin := { s.admin with producer := v } }
  | joinsQueue {s src} : s.meas.occupied src = false → Micro ok s { s with meas := s.meas.join src }
  | dropsHead {s} : Micro ok s { s with meas := s.meas.dropHead }
  | endsLegU {s} : Micro ok s { s with meas := s.meas.endLegU }
  | becomes {s p} : s.part ≠ .resetting → Micro ok s { s with part := p }
  | resetting {s t snapshot} : (snapshot.isSome = true → s.admin.snapshot.isSome = true) →
      Retires 0 { s with part := .resetting, admin := { s.admin with snapshot := snapshot } } t → Micro ok s t
  | resets {s} : Micro ok s (resetBlocks s)

/-- A chain of small changes. -/
abbrev Path (ok : Prop) : State → State → Prop := Relation.ReflTransGen (Micro ok)

/-- How a step begins: a row's own first change, after which it is a chain of small changes. A command that
arrives is accepted here (R172). With no completion ring configured only SET_COMPLETION_RING is, and its
whole execution stands here, because it holds no reservation (R176, R178). -/
inductive Begins : State → State → Prop
  | same {s} : Begins s s
  | ages {s} : Begins s (ageGates s)
  | waits {s a l} : Begins s (deadTimePassed a l s)
  | accepts {s r c i} : s.readTxn = some r → r.ring = .admin → s.comp.ringSize ≠ 0 →
      (i = s.admin.consumer ∨ i = nextIndex s.admin.ringSize s.admin.consumer) →
      Begins s { s with readTxn := none, admin := { s.admin with
        state := .executing, current := some c, consumer := i } }
  | acceptsAtOnce {s c i} : s.admin.state = .waiting → s.grantable = true →
      (i = s.admin.consumer ∨ i = nextIndex s.admin.ringSize s.admin.consumer) →
      Begins s { takeReservation s with admin := { s.admin with
        state := .executing, current := some c, consumer := i } }
  | ringless {s i txn} : s.comp.ringSize = 0 →
      (txn = s.readTxn ∧ s.admin.state = .waiting ∨
        txn = none ∧ ∃ r, s.readTxn = some r ∧ r.ring = .admin) →
      (i = s.admin.consumer ∨ i = nextIndex s.admin.ringSize s.admin.consumer) →
      Begins s (endExecution { s with readTxn := txn, admin := { s.admin with consumer := i } })
  | ringSetUp {s i txn base size done} : s.comp.ringSize = 0 →
      (txn = s.readTxn ∧ s.admin.state = .waiting ∨
        txn = none ∧ ∃ r, s.readTxn = some r ∧ r.ring = .admin) →
      (i = s.admin.consumer ∨ i = nextIndex s.admin.ringSize s.admin.consumer) →
      4 ≤ size → s.comp.reservations = 0 →
      Begins s (endExecution { s with
        readTxn := txn, admin := { s.admin with consumer := i }
        comp := { s.comp.moveTo base size with queue := s.comp.queue ++ [done] } })

end Sys2Proof.Machine
end

section
/-! What the small changes make of one axis, and the laws of one axis: what it holds by its state (R20, R34),
its trip record (R99), its monitors (R66, R70, R72), its half-periods (R62), its ring and its FIFO (R134, R137)
and the work it holds (R140). -/

namespace Sys2Proof.Machine

variable {ok running done : Prop}

/-! ### One axis under a small change -/

/-- What a small change of the part can make of one axis: a command changes it only where `running`, that one
is in execution before, and like a reset only where `done`, that none is afterwards. -/
inductive Axis.Evolves (ok running done : Prop) (x : Axis) : Axis → Prop
  | same : x.Evolves ok running done x
  | move {x' n} : x.Move ok x' n → x.Evolves ok running done x'
  | ordered {x'} : running → done → x.Ordered x' → x.Evolves ok running done x'
  | pends {tag} : x.state.isActive = true → x.Evolves ok running done { x with pendingStop := some tag }
  | places {seg} : x.state.isActive = true → x.Evolves ok running done
      { x with fifo := x.fifo ++ [seg], consumer := nextIndex x.ringSize x.consumer }
  | sent : x.Evolves ok running done { x with releaseSent := true }
  | reset : done → x.Evolves ok running done (Axis.reset x.pinActive)

theorem axis_sendReleases (l : List AxisId) (s : State) (b : AxisId) :
    (l.foldl (fun s c => sendRelease c s) s).axis b =
      if b ∈ l then { s.axis b with releaseSent := true } else s.axis b := by
  induction l generalizing s with
  | nil => rfl
  | cons c l ih =>
    have step : (sendRelease c s).axis b = if b = c then { s.axis b with releaseSent := true } else s.axis b := by
      rw [sendRelease, State.modAxis, axis_setAxis]
      split
      · next h => rw [h]
      · rfl
    simp only [List.foldl_cons, ih, step, List.mem_cons]
    split <;> split <;> simp_all

/-- Releases change axes alone. -/
theorem sendReleases_eq (l : List AxisId) (s : State) :
    ∃ axes, l.foldl (fun s c => sendRelease c s) s = { s with axes := axes } := by
  induction l generalizing s with
  | nil => exact ⟨s.axes, rfl⟩
  | cons c l ih =>
    obtain ⟨axes, h⟩ := ih (sendRelease c s)
    exact ⟨axes, h⟩

/-- An axis that a state operation has replaced, read back. -/
theorem axis_of_axes_set {s t : State} {a : AxisId} {x : Axis} (h : t.axes = (s.setAxis a x).axes)
    (b : AxisId) : t.axis b = if b = a then x else s.axis b := by
  rw [axis_congr h, axis_setAxis]

theorem axis_resetBlocks (s : State) (a : AxisId) : (resetBlocks s).axis a = Axis.reset (s.axis a).pinActive := by
  simp [resetBlocks, State.axis]

theorem issueReadOf_axes (ring : RingId) (s : State) : (issueReadOf ring s).axes = s.axes := by
  unfold issueReadOf
  cases ring <;> dsimp only <;> split <;> rfl

/-- Every axis evolves under a small change. -/
theorem Micro.axis {s t : State} (h : Micro ok s t) (b : AxisId) :
    (s.axis b).Evolves ok (s.admin.state = .executing) (t.admin.state ≠ .executing) (t.axis b) := by
  have set : ∀ {running done : Prop} {a : AxisId} {x' : Axis} {u : State}, u.axes = (s.setAxis a x').axes →
      (s.axis a).Evolves ok running done x' → (s.axis b).Evolves ok running done (u.axis b) := by
    intro running done a x' u hu hx
    rw [axis_of_axes_set hu]
    split
    · next e => rw [e]; exact hx
    · exact .same
  have same : ∀ {running done : Prop} {u : State}, u.axes = s.axes → (s.axis b).Evolves ok running done (u.axis b) := by
    intro running done u hu
    rw [axis_congr hu]
    exact .same
  cases h with
  | move hm _ hr => exact set hr.axes (.move hm)
  | executes he _ hx _ hr =>
    refine set (u := endExecution _) hr.axes ?_
    rcases hx with ⟨ho, _⟩ | hm
    · exact .ordered he (AdminState.noConfusion ·) ho
    · exact .move hm
  | pends _ ha _ => exact set (u := endExecution _) rfl (.pends ha)
  | places _ _ ha => exact set (u := State.modAxis _ _ _) rfl (.places ha)
  | completes =>
    rw [axis_sendReleases]
    split
    · exact .sent
    · exact .same
  | resets => rw [axis_resetBlocks]; exact .reset (AdminState.noConfusion ·)
  | quiet hr => exact same hr.axes
  | answers _ hr => exact same (u := endExecution _) hr.axes
  | rests _ _ _ _ hr => exact same hr.axes
  | readEnds _ _ hr => exact same hr.axes
  | adminReadEnds _ _ _ _ _ hr => exact same hr.axes
  | posts _ hr => exact same hr.axes
  | adminRing _ hr => exact same hr.axes
  | resetting _ hr => exact same hr.axes
  | issuesAxis _ _ => exact same (issueReadOf_axes _ s)
  | issuesAdmin _ _ => exact same (issueReadOf_axes _ s)
  | refresh => exact .same
  | clears _ => exact .same
  | forms _ => exact .same
  | ringMoves _ _ _ _ => exact .same
  | discardsRead _ => exact .same
  | discards => exact .same
  | consumes _ _ => exact .same
  | adminProduces _ => exact .same
  | joinsQueue _ => exact .same
  | dropsHead => exact .same
  | endsLegU => exact .same
  | becomes _ => exact .same

/-! ### What an axis holds by its state (R20, R34) -/

/-- An axis in no active state holds no active segment, so closing it empties the segment in any state. -/
theorem Axis.HoldsByState.closed_eq {x : Axis} (h : x.HoldsByState) : x.closed = { x with active := none } := by
  obtain ⟨_, run, _, _⟩ := h
  unfold Axis.closed
  split
  · rfl
  · next hr =>
    have : x.active = none := by simpa [hr] using run
    rw [← this]

theorem Axis.HoldsByState.closes_eq {x : Axis} (h : x.HoldsByState) : x.closes = x.active.toList.length := by
  obtain ⟨_, run, _, _⟩ := h
  unfold Axis.closes
  split
  · rfl
  · next hr =>
    have : x.active = none := by simpa [hr] using run
    simp [this]

/-- An axis that has left the active states holds nothing. -/
theorem holdsByState_stopped {x : Axis} {st : AxisState} (h : st.isActive = false) :
    (x.stopped st).HoldsByState := by
  refine ⟨by simp [Axis.stopped], ?_, by simp [Axis.stopped], by simp [Axis.stopped]⟩
  cases st <;> simp [Axis.stopped, AxisState.isActive] at h ⊢

theorem Axis.Move.holdsByState {x x' : Axis} {n : Nat} (hok : ok) (h : x.Move ok x' n)
    (hx : x.HoldsByState) : x'.HoldsByState := by
  obtain ⟨idle, run, arrived, released⟩ := id hx
  cases h with
  | minor k =>
    obtain ⟨h1, -, h2, h3, h4, h5, h6, -, -, -, -, -, -, h7, -, h8⟩ := k
    simp only [Axis.HoldsByState, h1, h2, h3, h4, h5, h6, h7]
    refine ⟨fun hi => ?_, run, arrived, released⟩
    rw [h8.resolve_left (by simp [hi])]
    exact idle hi
  | account ha => exact ⟨by simp [Axis.account, ha], run, arrived, released⟩
  | load ha => exact ⟨by simp [Axis.load, ha], by simpa [Axis.load] using run, arrived, released⟩
  | producer _ => exact ⟨idle, run, arrived, released⟩
  | stage k hf hm hp =>
    obtain ⟨ha, hw, hs, harr⟩ := k
    exact ⟨by simp [Axis.stage, Axis.popped, Axis.request, ha], run,
      by simp [Axis.stage, Axis.popped, Axis.request, harr], fun hr => absurd (released hr).1 hw⟩
  | stageReleased hw hr hf =>
    obtain ⟨_, harr, _⟩ := released hr
    exact ⟨by simp [Axis.stage, Axis.popped, Axis.request, hw, AxisState.isActive], run,
      by simp [Axis.stage, Axis.popped, Axis.request, harr], by simp⟩
  | mark k hf =>
    exact ⟨by simp [Axis.popped, k.active], run, arrived, released⟩
  | joins k hf hv =>
    exact ⟨by simp [k.active], run, fun _ => k.staged hok, fun hr => absurd (released hr).1 k.playing⟩
  | releaseLost _ => exact ⟨idle, run, arrived, released⟩
  | releaseStage hg hf ha hw hm =>
    exact ⟨by simp [Axis.stage, Axis.popped, Axis.request, ha], run,
      by simp [Axis.stage, Axis.popped, Axis.request], fun hr => absurd (released hr).1 hw⟩
  | releaseMark hg hf ha hw =>
    exact ⟨by simp [ha], run, by simp, fun hr => absurd (released hr).1 hw⟩
  | releaseMarkWait hg hf hw =>
    have hr : x.released = false := by
      by_contra hr
      simp [(released (by simpa using hr)).2.1] at hg
    have hact : x.active = none := by simpa [hw] using run
    exact ⟨by simp [AxisState.isActive], by simp [hact], by simp, by simp [hr]⟩
  | releaseHeadWait hg hf hw hm =>
    exact ⟨by simp [hw, AxisState.isActive], run, by simp, fun _ => ⟨hw, rfl, arrived (by simp [hg])⟩⟩
  | activate ha hs =>
    have harr : x.arrival = none := by
      by_contra hn
      simp [arrived (Option.isSome_iff_ne_none.mpr hn)] at hs
    exact ⟨by simp [Axis.activate, AxisState.isActive], by simp [Axis.activate], by simp [Axis.activate],
      by simp [Axis.activate]⟩
  | wait k hw =>
    have hact := hx.closed_eq
    rw [hact]
    refine ⟨by simp [AxisState.isActive], by simp, fun _ => k.staged, fun hr => ⟨rfl, (released hr).2⟩⟩
  | runEnd k harr => exact holdsByState_stopped rfl
  | grace k harr hw =>
    have hact := hx.closed_eq
    rw [hact]
    exact ⟨by simp [AxisState.isActive], by simp, fun _ => k.staged, fun hr => absurd (released hr).1 hw⟩
  | stop ha hp => exact holdsByState_stopped (x := x.closed) rfl
  | stopNow ha => exact holdsByState_stopped (x := x) rfl
  | trip ha => exact holdsByState_stopped (x := x) rfl
  | later => exact ⟨idle, run, arrived, released⟩

theorem Axis.Ordered.holdsByState {x x' : Axis} (h : x.Ordered x') (hx : x.HoldsByState) :
    x'.HoldsByState := by
  obtain ⟨idle, run, arrived, released⟩ := id hx
  cases h with
  | same => exact hx
  | setRing _ => exact hx
  | configure _ _ _ => exact hx
  | start hs =>
    obtain ⟨h1, h2, _⟩ := idle (by simp [hs, AxisState.isActive])
    have hact : x.active = none := by simpa [hs] using run
    exact ⟨by simp [Axis.start, AxisState.isActive], by simp [Axis.start, hact], fun _ => h1,
      by simp [Axis.start]⟩
  | clear hs | clearSkipped hs =>
    have hact : x.active = none := by simpa [hs] using run
    exact ⟨fun _ => idle (by simp [hs, AxisState.isActive]),
      by simp [Axis.clear, Axis.skipped, hact], arrived, fun hr => absurd (released hr).1 (by simp [hs])⟩

/-- Every axis that evolves keeps what its state lets it hold. -/
theorem Axis.Evolves.holdsByState {x x' : Axis} (hok : ok) (h : x.Evolves ok running done x') (hx : x.HoldsByState) :
    x'.HoldsByState := by
  obtain ⟨idle, run, arrived, released⟩ := id hx
  cases h with
  | same => exact hx
  | move hm => exact hm.holdsByState hok hx
  | ordered _ _ ho => exact ho.holdsByState hx
  | pends ha => exact ⟨by simp [ha], run, arrived, released⟩
  | places ha => exact ⟨by simp [ha], run, arrived, released⟩
  | sent => exact hx
  | reset _ => simp [Axis.HoldsByState, Axis.reset]

/-! ### The trip record (R99, R100) -/

/-- R99 at one axis. -/
def Axis.RecordMatches (x : Axis) : Prop := x.tripRecord.isSome = (x.state == .tripped)

/-- The axis is TRIPPED with this record, but for later causes that may have joined it (R100). -/
def Axis.Remembers (r : TripRecord) (x : Axis) : Prop :=
  x.state = .tripped ∧ ∃ r', x.tripRecord = some r' ∧ r'.first = r.first ∧ r'.timestamp = r.timestamp ∧
    r.later ||| r'.later = r'.later

/-- A move leaves the state TRIPPED and its record, adds a later cause to it, makes an active axis TRIPPED with a
record, or leaves an active axis without one. -/
theorem Axis.Move.tripped_cases {x x' : Axis} {n : Nat} (h : x.Move ok x' n) :
    (x'.state = x.state ∧ x'.tripRecord = x.tripRecord) ∨
    (∃ cause, x'.state = x.state ∧ x'.tripRecord = x.tripRecord.map (·.addLater cause)) ∨
    (x.state.isActive = true ∧ x'.state = .tripped ∧ x'.tripRecord.isSome = true) ∨
    (x.state.isActive = true ∧ x'.state ≠ .tripped ∧ x'.tripRecord = x.tripRecord) := by
  have closed : x.closed.tripRecord = x.tripRecord := by unfold Axis.closed; split <;> rfl
  cases h with
  | minor k => exact .inl ⟨k.state, k.tripRecord⟩
  | later => exact .inr (.inl ⟨_, rfl, rfl⟩)
  | trip ha => exact .inr (.inr (.inl ⟨ha, rfl, rfl⟩))
  | releaseMarkWait _ _ hw => exact .inr (.inr (.inr ⟨by simp [hw, AxisState.isActive], by simp, rfl⟩))
  | activate ha _ => exact .inr (.inr (.inr ⟨ha, by simp [Axis.activate], closed⟩))
  | wait k _ => exact .inr (.inr (.inr ⟨k.active, by simp, closed⟩))
  | runEnd k _ => exact .inr (.inr (.inr ⟨k.active, by simp [Axis.stopped], closed⟩))
  | grace k _ _ => exact .inr (.inr (.inr ⟨k.active, by simp, closed⟩))
  | stop ha _ => exact .inr (.inr (.inr ⟨ha, by simp [Axis.stopped, Axis.skipped], closed⟩))
  | stopNow ha => exact .inr (.inr (.inr ⟨ha, by simp [Axis.stopped, Axis.skipped], rfl⟩))
  | _ => exact .inl ⟨rfl, rfl⟩

theorem Axis.Evolves.recordMatches {x x' : Axis} (h : x.Evolves ok running done x') (hx : x.RecordMatches) :
    x'.RecordMatches := by
  unfold Axis.RecordMatches at hx ⊢
  cases h with
  | move hm =>
    rcases hm.tripped_cases with ⟨h1, h2⟩ | ⟨cause, h1, h2⟩ | ⟨_, h1, h2⟩ | ⟨ha, h1, h2⟩
    · rw [h1, h2, hx]
    · rw [h1, h2, Option.isSome_map, hx]
    · rw [h1, h2]; rfl
    · have : x.state ≠ .tripped := by rintro e; simp [e, AxisState.isActive] at ha
      rw [h2, hx, beq_eq_false_iff_ne.mpr this, beq_eq_false_iff_ne.mpr h1]
  | ordered _ _ ho =>
    cases ho with
    | start hs => rw [hs] at hx; exact hx
    | clear _ | clearSkipped _ => rfl
    | _ => exact hx
  | same | pends _ | places _ | sent => exact hx
  | reset _ => rfl

/-- Only a command takes the record from a TRIPPED axis, or a reset. -/
theorem Axis.Move.remembers {x x' : Axis} {n : Nat} {r : TripRecord} (h : x.Move ok x' n)
    (hx : x.Remembers r) : x'.Remembers r := by
  obtain ⟨ht, r', hr', first, timestamp, later⟩ := hx
  have idle : x.state.isActive = false := by rw [ht]; rfl
  rcases h.tripped_cases with ⟨h1, h2⟩ | ⟨cause, h1, h2⟩ | ⟨ha, _⟩ | ⟨ha, _⟩
  · exact ⟨h1.trans ht, r', h2.trans hr', first, timestamp, later⟩
  · refine ⟨h1.trans ht, r'.addLater cause, by rw [h2, hr']; rfl, first, timestamp, ?_⟩
    rw [TripRecord.addLater, ← BitVec.or_assoc, later]
  · simp [ha] at idle
  · simp [ha] at idle

/-! ### The top-up monitors (R66, R70, R72) -/

/-- The law of the monitors at one axis. -/
def Axis.MonitorsOk (x : Axis) : Prop :=
  x.monitors.u.InRange x.config.r ∧ x.monitors.v.InRange x.config.r ∧ x.monitors.w.InRange x.config.r ∧
    x.stolenTotal ≤ 65535

theorem Monitor.inRange_reset {r : Nat} (h : 0 < r) : Monitor.reset.InRange r := ⟨by simp [Monitor.reset],
  by simp [Monitor.reset], by simpa [Monitor.reset] using h⟩

theorem Monitor.highSideStep_bounds {m : Monitor} {r : Nat} (on : Nat) (hb : m.backlog ≤ 3)
    (hr : m.requests < r) :
    (m.highSideStep r on).backlog ≤ 3 ∧ (m.highSideStep r on).requests < r := by
  unfold Monitor.highSideStep
  split
  · exact ⟨hb, hr⟩
  · split
    · exact ⟨Nat.min_le_left _ _, by simp only; omega⟩
    · exact ⟨hb, by simp only; omega⟩

theorem Monitor.qualifyingStep_bounds {m : Monitor} {r : Nat} (tBoot : Nat) (override : Bool) (on : Nat)
    (hb : m.backlog ≤ 3) (hr : m.requests < r) :
    (m.qualifyingStep tBoot override on).backlog ≤ 3 ∧ (m.qualifyingStep tBoot override on).requests < r := by
  unfold Monitor.qualifyingStep
  split
  · exact ⟨by simp only; omega, hr⟩
  · exact ⟨hb, hr⟩

theorem Monitor.inRange_updateUrgent {m : Monitor} {r : Nat} (hb : m.backlog ≤ 3) (hr : m.requests < r) :
    m.updateUrgent.InRange r :=
  ⟨hb, fun hu hz => by simp [Monitor.updateUrgent, show m.backlog = 0 from hz] at hu, hr⟩

/-- Accounting keeps a monitor in range (R67 to R70). -/
theorem Monitor.inRange_account {m : Monitor} {cfg : AxisConfig} (h : Nat) (override : Bool) (c : Nat)
    (hm : m.InRange cfg.r) : (m.account cfg h override c).InRange cfg.r := by
  obtain ⟨backlog, urgent, requests⟩ := hm
  unfold Monitor.account
  split
  · exact Monitor.inRange_reset (by omega)
  · obtain ⟨hb, hr⟩ := Monitor.highSideStep_bounds (highOnTime h cfg.d override c) backlog requests
    obtain ⟨kb, kr⟩ := Monitor.qualifyingStep_bounds cfg.tBoot override (lowOnTime h cfg.d override c) hb hr
    exact Monitor.inRange_updateUrgent kb kr

theorem Axis.monitorsOk_account {x : Axis} (h : x.MonitorsOk) : x.account.MonitorsOk := by
  obtain ⟨hu, hv, hw, ht⟩ := h
  unfold Axis.account Axis.MonitorsOk
  split
  · have hr : 0 < x.config.r := by omega
    exact ⟨Monitor.inRange_reset hr, Monitor.inRange_reset hr, Monitor.inRange_reset hr, ht⟩
  · exact ⟨Monitor.inRange_account _ _ _ hu, Monitor.inRange_account _ _ _ hv,
      Monitor.inRange_account _ _ _ hw, ht⟩

theorem Axis.Evolves.monitorsOk {x x' : Axis} (h : x.Evolves ok running done x') (hx : x.MonitorsOk) : x'.MonitorsOk := by
  have closed : x.closed.MonitorsOk := by unfold Axis.closed; split <;> exact hx
  have hr : 0 < x.config.r := by obtain ⟨hu, _⟩ := hx; omega
  cases h with
  | move hm =>
    cases hm with
    | minor k => simpa only [Axis.MonitorsOk, k.monitors, k.config, k.stolenTotal] using hx
    | account _ => exact Axis.monitorsOk_account hx
    | load _ =>
      obtain ⟨hu, hv, hw, _⟩ := hx
      exact ⟨hu, hv, hw, Nat.min_le_left _ _⟩
    | activate _ _ | wait _ _ | runEnd _ _ | grace _ _ _ | stop _ _ => exact closed
    | _ => exact hx
  | ordered _ _ ho =>
    cases ho with
    | configure _ _ hr' =>
      obtain ⟨_, _, _, ht⟩ := hx
      exact ⟨Monitor.inRange_reset hr', Monitor.inRange_reset hr', Monitor.inRange_reset hr', ht⟩
    | start _ =>
      obtain ⟨hu, hv, hw, _⟩ := hx
      exact ⟨hu, hv, hw, by simp [Axis.start]⟩
    | _ => exact hx
  | same | pends _ | places _ | sent => exact hx
  | reset _ =>
    have one : Monitor.reset.InRange 1 := Monitor.inRange_reset Nat.one_pos
    exact ⟨one, one, one, Nat.zero_le _⟩

/-! ### The half-periods (R5, R62) -/

/-- The law of the half-periods at one axis, apart from what the axis holds by its state. -/
def Axis.PeriodsOk (x : Axis) : Prop :=
  LegalPeriod x.config x.config.h ∧ LegalPeriod x.config x.shadowH ∧ LegalPeriod x.config x.workH ∧
    (x.arrival.isSome = true → ∃ seg ∈ x.fifo.head?, seg.isMark = true ∨ seg.PeriodOk x.config) ∧
    (x.released = true → ∃ seg ∈ x.fifo.head?, seg.isMark = false ∧ seg.PeriodOk x.config)

/-- The shadow half-period stays legal where a record with a legal one is staged (R8). -/
theorem legalPeriod_stage {x : Axis} {seg : Segment} (h : LegalPeriod x.config x.shadowH)
    (hp : seg.PeriodOk x.config) :
    LegalPeriod (x.stage seg).config (x.stage seg).shadowH := by
  show LegalPeriod x.config (if seg.newH = 0 then x.shadowH else seg.newH.toNat)
  split
  · exact h
  · next hz => exact hp.resolve_left hz

theorem Axis.closed_fields (x : Axis) : x.closed.config = x.config ∧ x.closed.shadowH = x.shadowH ∧
    x.closed.workH = x.workH ∧ x.closed.arrival = x.arrival ∧ x.closed.released = x.released ∧
    x.closed.fifo = x.fifo := by
  unfold Axis.closed; split <;> exact ⟨rfl, rfl, rfl, rfl, rfl, rfl⟩

/-- An axis without an arrived or a released head need only work with legal half-periods. -/
theorem Axis.periodsOk_of_no_head {x : Axis} (h : LegalPeriod x.config x.config.h)
    (hs : LegalPeriod x.config x.shadowH) (hw : LegalPeriod x.config x.workH) (ha : x.arrival = none)
    (hr : x.released = false) : x.PeriodsOk :=
  ⟨h, hs, hw, by simp [ha], by simp [hr]⟩

theorem Axis.Move.periodsOk {x x' : Axis} {n : Nat} (h : x.Move ok x' n) (hold : x.HoldsByState)
    (hx : x.PeriodsOk) : x'.PeriodsOk := by
  obtain ⟨_, _, arrived, released⟩ := hold
  obtain ⟨legal, shadow, work, arrivedHead, releasedHead⟩ := id hx
  have unreleased : x.state ≠ .waitRdv → x.released = false := fun hw => by
    by_contra hr
    exact hw (released (by simpa using hr)).1
  obtain ⟨c1, c2, c3, c4, c5, c6⟩ := x.closed_fields
  cases h with
  | minor k =>
    simpa only [Axis.PeriodsOk, k.config, k.shadowH, k.workH, k.arrival, k.released, k.fifo] using hx
  | load _ => exact ⟨legal, shadow, shadow, arrivedHead, releasedHead⟩
  | stage k hf hm hp =>
    exact Axis.periodsOk_of_no_head legal (legalPeriod_stage shadow hp) work k.arrival (unreleased k.playing)
  | @stageReleased seg rest hw hr hf =>
    obtain ⟨_, harr, _⟩ := released hr
    obtain ⟨seg', hhead, _, hp⟩ := releasedHead hr
    obtain rfl : seg = seg' := by simpa [hf] using hhead
    exact Axis.periodsOk_of_no_head legal (legalPeriod_stage (x := x.popped rest) shadow hp) work harr rfl
  | mark k hf => exact Axis.periodsOk_of_no_head legal shadow work k.arrival (unreleased k.playing)
  | @joins seg rest g k hf hv =>
    exact ⟨legal, shadow, work, fun _ => ⟨seg, by simp [hf], hv⟩,
      fun hr => absurd (released hr).1 k.playing⟩
  | @releaseStage g seg rest hg hf _ hw hm =>
    obtain ⟨seg', hhead, hp⟩ := arrivedHead (by simp [hg])
    obtain rfl : seg = seg' := by simpa [hf] using hhead
    have hp := hp.resolve_left (by simp [hm])
    exact Axis.periodsOk_of_no_head legal
      (legalPeriod_stage (x := Axis.popped { x with releaseSent := false, arrival := none } rest) shadow hp)
      work rfl (unreleased hw)
  | releaseMark _ _ _ hw => exact Axis.periodsOk_of_no_head legal shadow work rfl (unreleased hw)
  | releaseMarkWait hg _ _ =>
    refine Axis.periodsOk_of_no_head legal shadow work rfl ?_
    by_contra hr
    simp [(released (by simpa using hr)).2.1] at hg
  | @releaseHeadWait g seg rest hg hf _ hm =>
    obtain ⟨seg', hhead, hp⟩ := arrivedHead (by simp [hg])
    obtain rfl : seg = seg' := by simpa [hf] using hhead
    exact ⟨legal, shadow, work, by simp, fun _ => ⟨seg, by simp [hf], hm, hp.resolve_left (by simp [hm])⟩⟩
  | activate _ hs =>
    have harr : x.arrival = none := by
      by_contra hn
      simp [arrived (Option.isSome_iff_ne_none.mpr hn)] at hs
    refine Axis.periodsOk_of_no_head ?_ ?_ ?_ (c4.trans harr) rfl
    all_goals simpa [Axis.activate, c1, c2, c3]
  | wait _ _ => simpa only [Axis.PeriodsOk, c1, c2, c3, c4, c5, c6] using hx
  | runEnd _ _ | stop _ _ =>
    refine Axis.periodsOk_of_no_head ?_ ?_ ?_ rfl rfl
    all_goals simpa [Axis.stopped, Axis.skipped, c1, c2, c3]
  | grace _ harr hw =>
    refine Axis.periodsOk_of_no_head ?_ ?_ ?_ (c4.trans harr) (c5.trans (unreleased hw))
    all_goals simpa [c1, c2, c3]
  | stopNow _ | trip _ => exact Axis.periodsOk_of_no_head legal shadow work rfl rfl
  | account _ | producer _ | releaseLost _ | later => exact hx

theorem Axis.Evolves.periodsOk {x x' : Axis} (h : x.Evolves ok running done x') (hold : x.HoldsByState)
    (hx : x.PeriodsOk) : x'.PeriodsOk := by
  obtain ⟨legal, shadow, work, arrivedHead, releasedHead⟩ := id hx
  cases h with
  | move hm => exact hm.periodsOk hold hx
  | ordered _ _ ho =>
    obtain ⟨idle, _, _, _⟩ := hold
    cases ho with
    | configure hs hl _ =>
      obtain ⟨_, harr, hr, _⟩ := idle (by simp [hs, AxisState.isActive])
      exact Axis.periodsOk_of_no_head hl hl hl harr hr
    | start hs =>
      obtain ⟨_, harr, _⟩ := idle (by simp [hs, AxisState.isActive])
      exact Axis.periodsOk_of_no_head legal legal legal harr rfl
    | _ => exact hx
  | same | pends _ | sent => exact hx
  | places _ =>
    refine ⟨legal, shadow, work, fun ha => ?_, fun hr => ?_⟩
    · obtain ⟨seg, hs, hp⟩ := arrivedHead ha
      exact ⟨seg, by simp [List.head?_append, Option.mem_def.mp hs], hp⟩
    · obtain ⟨seg, hs, hp⟩ := releasedHead hr
      exact ⟨seg, by simp [List.head?_append, Option.mem_def.mp hs], hp⟩
  | reset _ =>
    have legal : LegalPeriod AxisConfig.reset 64 := by decide
    exact Axis.periodsOk_of_no_head legal legal legal rfl rfl

/-! ### The ring, the FIFO and the work held (R134, R137, R140) -/

theorem ringOk_nextIndex {size producer consumer : Nat} (h : RingOk size producer consumer) :
    RingOk size producer (nextIndex size consumer) := by
  unfold nextIndex
  rcases h with ⟨hp, hc⟩ | ⟨hz, hp, hc⟩
  · rw [if_neg (by omega)]
    exact .inl ⟨hp, Nat.mod_lt _ (by omega)⟩
  · rw [if_pos hz]
    exact .inr ⟨hz, hp, rfl⟩

theorem Axis.Evolves.ringOk {x x' : Axis} (h : x.Evolves ok running done x')
    (hx : RingOk x.ringSize x.producer x.consumer) : RingOk x'.ringSize x'.producer x'.consumer := by
  have skipped : RingOk x.ringSize x.producer x.producer := by omega
  have closed : x.closed.ringSize = x.ringSize ∧ x.closed.producer = x.producer ∧
      x.closed.consumer = x.consumer := by
    unfold Axis.closed; split <;> exact ⟨rfl, rfl, rfl⟩
  obtain ⟨c1, c2, c3⟩ := closed
  cases h with
  | move hm =>
    cases hm with
    | minor k =>
      obtain ⟨h1, h2⟩ := Prod.mk.inj k.ring
      obtain ⟨h2, h3⟩ := Prod.mk.inj h2
      rwa [h1, h2, h3]
    | producer hv => simp only; omega
    | activate _ _ | wait _ _ | runEnd _ _ | grace _ _ _ =>
      simpa only [Axis.activate, Axis.stopped, c1, c2, c3] using hx
    | stop _ _ => simpa only [Axis.stopped, Axis.skipped, c1, c2] using skipped
    | stopNow _ => exact skipped
    | _ => exact hx
  | ordered _ _ ho =>
    cases ho with
    | setRing hs => exact .inl ⟨hs, hs⟩
    | clearSkipped _ => exact skipped
    | _ => exact hx
  | same | pends _ | sent => exact hx
  | places _ => exact ringOk_nextIndex hx
  | reset _ => exact .inr ⟨rfl, rfl, rfl⟩

/-- A move takes records from the FIFO, and adds none. -/
theorem Axis.Move.fifo_length_le {x x' : Axis} {n : Nat} (h : x.Move ok x' n) :
    x'.fifo.length ≤ x.fifo.length := by
  obtain ⟨_, _, _, _, _, c6⟩ := x.closed_fields
  cases h with
  | minor k => rw [k.fifo]
  | stage _ hf _ _ | stageReleased _ _ hf | mark _ hf | releaseStage _ hf _ _ _ | releaseMark _ hf _ _
  | releaseMarkWait _ hf _ => simp [Axis.stage, Axis.popped, Axis.request, hf]
  | activate _ _ | wait _ _ | grace _ _ _ => simp [Axis.activate, c6]
  | runEnd _ _ | stop _ _ | stopNow _ | trip _ => exact Nat.zero_le _
  | _ => exact le_refl _

theorem Axis.Ordered.fifo_eq {x x' : Axis} (h : x.Ordered x') : x'.fifo = x.fifo := by
  cases h <;> rfl

/-- What a move retires is the work the axis no longer holds. -/
theorem Axis.Move.workHeld {x x' : Axis} {n : Nat} (hok : ok) (h : x.Move ok x' n) (hx : x.HoldsByState) :
    x'.workHeld + n = x.workHeld := by
  have hc := hx.closed_eq
  have hn := hx.closes_eq
  obtain ⟨idle, run, arrived, released⟩ := hx
  cases h with
  | minor k =>
    have : x'.active.toList.length = x.active.toList.length := by
      have := k.active
      cases h1 : x'.active <;> cases h2 : x.active <;> simp [h1, h2] at this ⊢
    simp only [Axis.workHeld, this, k.staged, k.fifo, k.pendingStop, Nat.add_zero]
  | load _ => cases ha : x.active <;> simp [Axis.workHeld, Axis.load, ha]
  | stage k hf _ _ =>
    simp [Axis.workHeld, Axis.stage, Axis.popped, Axis.request, hf, k.staged hok]; omega
  | stageReleased _ hr hf =>
    simp [Axis.workHeld, Axis.stage, Axis.popped, Axis.request, hf, (released hr).2.2]; omega
  | mark _ hf | releaseMark _ hf _ _ | releaseMarkWait _ hf _ => simp [Axis.workHeld, Axis.popped, hf]; omega
  | releaseStage hg hf _ _ _ =>
    simp [Axis.workHeld, Axis.stage, Axis.popped, Axis.request, hf, arrived (by simp [hg])]; omega
  | activate _ hs => rw [hc, hn]; simp [Axis.workHeld, Axis.activate, hs]; omega
  | wait k _ | grace k _ _ => rw [hc, hn]; simp [Axis.workHeld]; omega
  | runEnd k _ => rw [hc, hn]; simp [Axis.workHeld, Axis.stopped, k.staged, k.pendingStop]
  | stop _ hp =>
    obtain ⟨tag, hp⟩ := Option.isSome_iff_exists.mp hp
    rw [hc, hn]; simp [Axis.workHeld, Axis.stopped, Axis.skipped, hp]
  | stopNow _ | trip _ => simp [Axis.workHeld, Axis.stopped, Axis.skipped, Axis.trip]
  | _ => rfl

theorem Axis.Ordered.workHeld_eq {x x' : Axis} (h : x.Ordered x') : x'.workHeld = x.workHeld := by
  cases h <;> rfl

end Sys2Proof.Machine
end

section
/-! The laws of the part against its small changes: legs (R53), groups (R80), FIFOs, ring indices and the
converter's queue (R116, R134, R137, R154), and the reservations (R140, R155, R157, R159). -/

namespace Sys2Proof.Machine

variable {ok : Prop}

/-! ### From small changes to chains -/

/-- What each small change keeps, a chain of them keeps. -/
theorem Path.keeps {P : State → Prop} (h : ∀ s t, P s → Micro ok s t → P t) {s t : State}
    (path : Path ok s t) (hs : P s) : P t := by
  induction path with
  | refl => exact hs
  | tail _ hm ih => exact h _ _ ih hm

/-- What holds of each axis and is kept by whatever an axis can evolve to holds after a small change. -/
theorem Micro.forall_axis {P : Axis → Prop} (h : ∀ running done x x', Axis.Evolves ok running done x x' → P x → P x') {s t : State}
    (hm : Micro ok s t) (hs : ∀ a, P (s.axis a)) : ∀ a, P (t.axis a) :=
  fun a => h _ _ _ _ (hm.axis a) (hs a)

/-- No row begins with a change of an axis. -/
theorem Begins.axes {s t : State} (h : Begins s t) : t.axes = s.axes := by
  cases h <;> rfl

theorem Begins.forall_axis {P : Axis → Prop} {s t : State} (h : Begins s t) (hs : ∀ a, P (s.axis a)) :
    ∀ a, P (t.axis a) := fun a => by rw [axis_congr h.axes]; exact hs a

/-! ### The legs (R53) -/

theorem issueReadOf_gates (ring : RingId) (s : State) : (issueReadOf ring s).gates = s.gates := by
  unfold issueReadOf
  cases ring <;> dsimp only <;> split <;> rfl

theorem issueReadOf_groups (ring : RingId) (s : State) : (issueReadOf ring s).groups = s.groups := by
  unfold issueReadOf
  cases ring <;> dsimp only <;> split <;> rfl

/-- A small change leaves a leg, or begins its dead time anew. -/
theorem Micro.gate {s t : State} (h : Micro ok s t) (a : AxisId) (l : Leg) :
    t.gate a l = s.gate a l ∨ (t.gate a l).held = 0 := by
  have same : ∀ {u : State}, u.gates = s.gates → u.gate a l = s.gate a l ∨ (u.gate a l).held = 0 :=
    fun hu => .inl (gate_congr hu a l)
  cases h with
  | refresh =>
    rw [gate_refreshGates, Gate.follow]
    split
    · exact .inl rfl
    · exact .inr rfl
  | resets =>
    right
    show ((Vector.replicate 4 (Legs.all Gate.reset))[a].get l).held = 0
    simp [Gate.reset]
  | completes => obtain ⟨axes, he⟩ := sendReleases_eq _ _; rw [he]; exact .inl rfl
  | issuesAxis _ _ | issuesAdmin _ _ => exact same (issueReadOf_gates _ s)
  | quiet hr | move _ _ hr | rests _ _ _ _ hr | readEnds _ _ hr | adminReadEnds _ _ _ _ _ hr
  | posts _ hr | adminRing _ hr | resetting _ hr => exact same hr.gates
  | executes _ _ _ _ hr => exact same (u := endExecution _) hr.gates
  | answers _ hr => exact same (u := endExecution _) hr.gates
  | _ => exact .inl rfl

theorem gate_deadTimePassed (a b : AxisId) (k l : Leg) (s : State) : (deadTimePassed b k s).gate a l =
    if a = b ∧ l = k then
      if (s.gate b k).demand = .neither then s.gate b k
      else { s.gate b k with held := max (s.gate b k).held (s.axis b).config.d }
    else s.gate a l := by
  unfold deadTimePassed
  dsimp only
  generalize (if (s.gate b k).demand = Demand.neither then s.gate b k
    else { s.gate b k with held := max (s.gate b k).held (s.axis b).config.d }) = g
  by_cases hab : a = b
  · subst hab
    by_cases hk : l = k
    · subst hk; simp [State.gate]
    · simp [State.gate, hk, legs_get_set_ne _ _ hk]
  · have : (b : Nat) ≠ a := fun e => hab (Fin.ext e.symm)
    simp [State.gate, hab, Vector.getElem_set_ne _ _ this]

/-- A row begins with no change of a demand. -/
theorem Begins.demand {s t : State} (h : Begins s t) (a : AxisId) (l : Leg) :
    (t.gate a l).demand = (s.gate a l).demand := by
  cases h with
  | ages => rw [gate_ageGates]; rfl
  | @waits b k =>
    have waited : (if (s.gate b k).demand = .neither then s.gate b k
        else { s.gate b k with held := max (s.gate b k).held (s.axis b).config.d }).demand =
        (s.gate b k).demand := by split <;> rfl
    rw [gate_deadTimePassed]
    split
    · next e => rw [e.1, e.2]; exact waited
    · rfl
  | _ => rfl

/-- R53: on whatever chain a step goes, a demand that differs at its end began its dead time on the way. -/
theorem held_eq_zero_of_demand_ne {s u t : State} (hb : Begins s u) (path : Path ok u t) (a : AxisId)
    (l : Leg) (h : (t.gate a l).demand ≠ (s.gate a l).demand) : (t.gate a l).held = 0 := by
  refine path.keeps (P := fun t => (t.gate a l).demand ≠ (s.gate a l).demand → (t.gate a l).held = 0)
    (fun v w hv hm hw => ?_) (fun hne => absurd (hb.demand a l) hne) h
  rcases hm.gate a l with e | e
  · rw [e] at hw ⊢; exact hv hw
  · exact e

/-! ### The admin unit leaves EXECUTING and enters it with a command alone -/

theorem issueReadOf_admin (ring : RingId) (s : State) : (issueReadOf ring s).admin =
    { s.admin with state := if ring = .admin then .fetching else s.admin.state } := by
  unfold issueReadOf
  cases ring <;> dsimp only <;> split <;> rfl

/-- Only the acceptance of a command makes the unit EXECUTING. -/
theorem Micro.executing {s t : State} (h : Micro ok s t) (ht : t.admin.state = .executing) :
    s.admin.state = .executing := by
  cases h with
  | quiet hr | move _ _ hr | readEnds _ _ hr | posts _ hr => rwa [hr.adminState] at ht
  | rests _ _ h3 _ hr => rw [hr.adminState] at ht; exact absurd ht h3
  | adminReadEnds _ _ h3 _ _ hr => rw [hr.adminState] at ht; exact absurd ht h3
  | adminRing _ hr => rw [hr.adminState] at ht; exact ht
  | resetting _ hr => rw [hr.adminState] at ht; exact ht
  | completes => obtain ⟨axes, he⟩ := sendReleases_eq _ _; rw [he] at ht; exact ht
  | issuesAxis _ _ => rw [issueReadOf_admin] at ht; exact ht
  | issuesAdmin _ _ => rw [issueReadOf_admin] at ht; simp at ht
  | executes _ _ _ _ _ | pends _ _ _ | answers _ _ | ringMoves _ _ _ _ | resets => exact AdminState.noConfusion ht
  | _ => exact ht

/-- An axis that is TRIPPED loses its record to a command in execution, which ends there, or to a reset. -/
theorem Axis.Evolves.remembers {running done : Prop} {x x' : Axis} {r : TripRecord}
    (h : x.Evolves ok running done x') (hx : x.Remembers r) :
    x'.Remembers r ∨ x'.state = .idle ∧ x'.tripRecord = none ∧ done := by
  have ht := hx.1
  cases h with
  | move hm => exact .inl (hm.remembers hx)
  | ordered _ hd ho =>
    cases ho with
    | configure hs | start hs => rw [ht] at hs; cases hs
    | clear _ | clearSkipped _ => exact .inr ⟨rfl, rfl, hd⟩
    | _ => exact .inl hx
  | reset hd => exact .inr ⟨rfl, rfl, hd⟩
  | _ => exact .inl hx

/-- An IDLE axis without a record stays so while no command is in execution. -/
theorem Axis.Evolves.stays_idle {running done : Prop} {x x' : Axis} (h : x.Evolves ok running done x')
    (hn : ¬ running) (hs : x.state = .idle) (hr : x.tripRecord = none) :
    x'.state = .idle ∧ x'.tripRecord = none := by
  have idle : x.state.isActive = false := by rw [hs]; rfl
  cases h with
  | move hm =>
    rcases hm.tripped_cases with ⟨h1, h2⟩ | ⟨cause, h1, h2⟩ | ⟨ha, _⟩ | ⟨ha, _⟩
    · exact ⟨h1.trans hs, h2.trans hr⟩
    · exact ⟨h1.trans hs, by rw [h2, hr]; rfl⟩
    · simp [ha] at idle
    · simp [ha] at idle
  | ordered h _ _ => exact absurd h hn
  | reset _ => exact ⟨rfl, rfl⟩
  | _ => exact ⟨hs, hr⟩

/-- R34, R100, R111: on whatever chain a step goes, a TRIPPED axis keeps its record or is cleared to IDLE. -/
theorem remembers_or_cleared {u t : State} {a : AxisId} {r : TripRecord} (path : Path ok u t)
    (hu : (u.axis a).Remembers r) :
    (t.axis a).Remembers r ∨
      (t.axis a).state = .idle ∧ (t.axis a).tripRecord = none ∧ t.admin.state ≠ .executing := by
  refine path.keeps (P := fun t => (t.axis a).Remembers r ∨
      (t.axis a).state = .idle ∧ (t.axis a).tripRecord = none ∧ t.admin.state ≠ .executing)
    (fun v w hv hm => ?_) (.inl hu)
  rcases hv with hv | ⟨hs, hr, he⟩
  · exact (hm.axis a).remembers hv
  · obtain ⟨hs', hr'⟩ := (hm.axis a).stays_idle he hs hr
    exact .inr ⟨hs', hr', fun ht => he (hm.executing ht)⟩

/-! ### The groups (R80) -/

theorem bits_subset_iff (x m : BitVec 4) :
    x &&& ~~~m = 0#4 ↔ ∀ a, hasAxis x a = true → hasAxis m a = true := by
  revert x m; decide

theorem bits_eq_zero_iff (x : BitVec 4) : x = 0#4 ↔ ∀ a, hasAxis x a = false := by
  revert x; decide

theorem hasAxis_or_axisBit (x : BitVec 4) (a b : AxisId) :
    hasAxis (x ||| axisBit a) b = true ↔ hasAxis x b = true ∨ b = a := by
  revert x a b; decide

theorem hasAxis_and_not_axisBit (x : BitVec 4) (a b : AxisId) :
    hasAxis (x &&& ~~~ axisBit a) b = true ↔ hasAxis x b = true ∧ b ≠ a := by
  revert x a b; decide

theorem mem_axesOf {x : BitVec 4} {a : AxisId} : a ∈ axesOf x ↔ hasAxis x a = true := by
  have : a ∈ axisIds := by revert a; decide
  simp [axesOf, this]

/-- R80, said of each axis that stands in an arrived set. -/
def GroupsStand (axis : AxisId → Axis) (group : GroupId → Group) : Prop :=
  (∀ g b, hasAxis (group g).arrived b = true → hasAxis (group g).members b = true ∧
    (group g).state = .gathering ∧ (axis b).arrival = some g ∧ (axis b).releaseSent = false) ∧
  ∀ a, (axis a).releaseSent = true → (axis a).arrival.isSome = true

theorem groupsConsistent_iff (s : State) : GroupsConsistent s ↔ GroupsStand s.axis s.group := by
  refine and_congr_left fun _ => forall_congr' fun g => ?_
  rw [bits_subset_iff, bits_eq_zero_iff]
  constructor
  · rintro ⟨members, state, axes⟩ b hb
    refine ⟨members b hb, ?_, axes b hb⟩
    by_contra hs
    simp [state hs b] at hb
  · intro h
    refine ⟨fun b hb => (h b hb).1, fun hs b => ?_, fun b hb => (h b hb).2.2⟩
    by_contra hb
    exact hs (h b (by simpa using hb)).2.1

theorem group_setGroup (s : State) (g k : GroupId) (y : Group) :
    (s.setGroup g y).group k = if k = g then y else s.group k := by
  split
  · next h => rw [h, group_setGroup_self]
  · next h => exact group_setGroup_ne s y h

/-- A group that axis a leaves (R90). -/
def Group.leftBy (y : Group) (a : AxisId) : Group :=
  let left := y.arrived &&& ~~~ axisBit a
  if left = 0 then { y with arrived := 0, state := .idle, timer := none } else { y with arrived := left }

/-- What a departure makes of each group (R90). -/
theorem group_depart (a : AxisId) (s : State) (g : GroupId) : (depart a s).group g =
    if (s.axis a).arrival = some g ∧ (s.group g).state = .gathering ∧ hasAxis (s.group g).arrived a = true
    then (s.group g).leftBy a else s.group g := by
  unfold depart
  split
  · next hn => simp [hn]
  · next k hk =>
    dsimp only
    by_cases hc : (s.group k).state = .gathering ∧ hasAxis (s.group k).arrived a = true
    · rw [if_pos (by simpa using hc), group_setGroup]
      by_cases e : g = k
      · subst e
        rw [if_pos (rfl : g = g), if_pos (⟨hk, hc⟩ : _ ∧ _ ∧ _)]; rfl
      · rw [if_neg e, if_neg]; rintro ⟨h, _⟩; exact e (Option.some.inj (h.symm.trans hk))
    · rw [if_neg (by simpa using hc), if_neg]
      rintro ⟨h, h'⟩
      obtain rfl : k = g := Option.some.inj (hk.symm.trans h)
      exact hc h'

theorem hasAxis_leftBy {y : Group} {a b : AxisId} (h : hasAxis (y.leftBy a).arrived b = true) :
    hasAxis y.arrived b = true ∧ b ≠ a ∧ (y.leftBy a).members = y.members ∧
      (y.leftBy a).state = y.state := by
  unfold Group.leftBy at h ⊢
  dsimp only at h ⊢
  split at h
  · simp [hasAxis] at h
  · next hl =>
    obtain ⟨h1, h2⟩ := (hasAxis_and_not_axisBit _ _ _).mp h
    rw [if_neg hl]
    exact ⟨h1, h2, rfl, rfl⟩

/-- What a trip makes of each group (R86, R87). -/
theorem group_breakGroups (a : AxisId) (s : State) (g : GroupId) : (breakGroups a s).group g =
    if Breaks (s.group g) a then (s.group g).broken else s.group g := by
  rw [breakGroups_eq]; simp [State.group]

theorem not_hasAxis_broken (y : Group) (b : AxisId) : hasAxis y.broken.arrived b = false := by
  simp [Group.broken, hasAxis]

/-- Where axis a changes, the law is kept if each axis of the new arrived sets stood in the old ones, in a group
that has kept its members and gathers on, and axis a stands in none or has joined. -/
theorem GroupsStand.of_change {axis : AxisId → Axis} {group group' : GroupId → Group} {a : AxisId} {x' : Axis}
    (hs : GroupsStand axis group) (hsent : x'.releaseSent = true → x'.arrival.isSome = true)
    (h : ∀ g b, hasAxis (group' g).arrived b = true →
      hasAxis (group' g).members b = true ∧ (group' g).state = .gathering ∧
      (b = a → x'.arrival = some g ∧ x'.releaseSent = false) ∧
      (b ≠ a → hasAxis (group g).arrived b = true)) :
    GroupsStand (fun b => if b = a then x' else axis b) group' := by
  refine ⟨fun g b hb => ?_, fun b hb => ?_⟩
  · obtain ⟨h1, h2, h3, h4⟩ := h g b hb
    refine ⟨h1, h2, ?_⟩
    dsimp only
    split
    · next e => exact h3 e
    · next e => exact (hs.1 g b (h4 e)).2.2
  · dsimp only at hb ⊢
    split at hb
    · next e => rw [if_pos e]; exact hsent hb
    · next e => rw [if_neg e]; exact hs.2 b hb

/-- R80 under one axis's part in its group. -/
theorem Regroups.stand {s : State} {a : AxisId} {x' : Axis} {G : Vector Group 8} (h : Regroups s a x' G)
    (hs : GroupsStand s.axis s.group) :
    GroupsStand (fun b => if b = a then x' else s.axis b) fun g => G[g] := by
  obtain ⟨stand, sent⟩ := id hs
  cases h with
  | stays ha hr =>
    refine hs.of_change (fun h => ha ▸ sent a (hr ▸ h)) fun g b hb => ?_
    obtain ⟨h1, h2, h3, h4⟩ := stand g b hb
    exact ⟨h1, h2, fun e => by subst e; exact ⟨ha.trans h3, hr.trans h4⟩, fun _ => hb⟩
  | released h hr =>
    refine hs.of_change (by simp [hr]) fun g b hb => ?_
    obtain ⟨h1, h2, h3, h4⟩ := stand g b hb
    exact ⟨h1, h2, fun e => by subst e; simp [h] at h4, fun _ => hb⟩
  | ended h _ hr =>
    refine hs.of_change (by simp [hr]) fun g b hb => ?_
    obtain ⟨h1, h2, h3, h4⟩ := stand g b hb
    exact ⟨h1, h2, fun e => by subst e; simp [h] at h3, fun _ => hb⟩
  | departs _ hr =>
    refine hs.of_change (by simp [hr]) fun g b hb => ?_
    have hg : (depart a s).groups[g] = _ := group_depart a s g
    rw [hg] at hb ⊢
    split at hb
    · next hc =>
      rw [if_pos hc]
      obtain ⟨h1, h2, h3, h4⟩ := hasAxis_leftBy hb
      rw [h3, h4]
      exact ⟨(stand g b h1).1, hc.2.1, fun e => absurd e h2, fun _ => h1⟩
    · next hc =>
      rw [if_neg hc]
      obtain ⟨h1, h2, h3, _⟩ := stand g b hb
      exact ⟨h1, h2, fun e => by subst e; exact absurd ⟨h3, h2, hb⟩ hc, fun _ => hb⟩
  | breaks _ hr =>
    refine hs.of_change (by simp [hr]) fun g b hb => ?_
    have hg : (breakGroups a s).groups[g] = _ := group_breakGroups a s g
    rw [hg] at hb ⊢
    split at hb
    · rw [not_hasAxis_broken] at hb; cases hb
    · next hn =>
      rw [if_neg hn]
      obtain ⟨h1, h2, _⟩ := stand g b hb
      exact ⟨h1, h2, fun e => by subst e; exact absurd ⟨h2, h1⟩ hn, fun _ => hb⟩
  | @joins g' timer hn ha hr hm =>
    have quiet : (s.axis a).releaseSent = false := by
      by_contra hq
      have := sent a (by simpa using hq)
      simp [hn] at this
    refine hs.of_change (by simp [ha]) fun g b hb => ?_
    have hg : (s.setGroup g' { s.group g' with
        state := .gathering, arrived := (s.group g').arrived ||| axisBit a, timer := timer }).groups[g] = _ :=
      group_setGroup s g' g _
    rw [hg] at hb ⊢
    split at hb
    · next e =>
      subst e
      rw [if_pos rfl]
      rcases (hasAxis_or_axisBit _ _ _).mp hb with hb | e
      · obtain ⟨h1, _, h3, _⟩ := stand g b hb
        exact ⟨h1, rfl, fun e => by subst e; simp [hn] at h3, fun _ => hb⟩
      · exact ⟨e ▸ hm, rfl, fun _ => ⟨ha, hr.trans quiet⟩, fun h => absurd e h⟩
    · next e =>
      rw [if_neg e]
      obtain ⟨h1, h2, h3, _⟩ := stand g b hb
      exact ⟨h1, h2, fun e => by subst e; simp [hn] at h3, fun _ => hb⟩

theorem group_sendReleases (l : List AxisId) (s : State) :
    (l.foldl (fun s b => sendRelease b s) s).groups = s.groups := by
  obtain ⟨axes, h⟩ := sendReleases_eq l s
  rw [h]

/-- The law reads of a group its members, its state and its arrived set alone. -/
theorem GroupsStand.congr {axis : AxisId → Axis} {group group' : GroupId → Group} (hs : GroupsStand axis group)
    (h : ∀ g, (group' g).members = (group g).members ∧ (group' g).state = (group g).state ∧
      (group' g).arrived = (group g).arrived) : GroupsStand axis group' := by
  refine ⟨fun g b hb => ?_, hs.2⟩
  obtain ⟨h1, h2, h3⟩ := h g
  rw [h1, h2]
  exact hs.1 g b (h3 ▸ hb)

theorem Retires.groupsStand {n : Nat} {s t : State} (h : Retires n s t) (hs : GroupsStand s.axis s.group) :
    GroupsStand t.axis t.group := by
  have : t.axis = s.axis := funext h.axis
  rw [this]
  exact hs.congr h.groups

/-- The completion of a set: its arrived set empties, and a release goes to each axis that stood in it but the
one that completed it (R82). -/
theorem groupsStand_completes {s : State} {a : AxisId} {g : GroupId}
    (hs : GroupsStand s.axis s.group) :
    let t := ((axesOf ((s.group g).arrived ||| axisBit a)).filter (· ≠ a)).foldl
      (fun s b => sendRelease b s) (s.setGroup g (s.group g).afterRelease)
    GroupsStand t.axis t.group := by
  intro t
  obtain ⟨stand, sent⟩ := hs
  have hg : ∀ k, t.group k = if k = g then (s.group g).afterRelease else s.group k := fun k =>
    (group_congr (group_sendReleases _ _) k).trans (group_setGroup s g k _)
  have hx : ∀ b, t.axis b = if hasAxis (s.group g).arrived b = true ∧ b ≠ a
      then { s.axis b with releaseSent := true } else s.axis b := by
    intro b
    rw [axis_sendReleases]
    refine if_congr ?_ rfl rfl
    simp only [List.mem_filter, mem_axesOf, hasAxis_or_axisBit, decide_eq_true_eq, ne_eq]
    tauto
  refine ⟨fun k b hb => ?_, fun b hb => ?_⟩
  · rw [hg] at hb ⊢
    split at hb
    · simp [Group.afterRelease, hasAxis] at hb
    · next hk =>
      rw [if_neg hk]
      obtain ⟨h1, h2, h3, h4⟩ := stand k b hb
      have : ¬ (hasAxis (s.group g).arrived b = true ∧ b ≠ a) := by
        rintro ⟨hb', _⟩
        have h5 := (stand g b hb').2.2.1
        exact hk (Option.some.inj (h3.symm.trans h5))
      rw [hx, if_neg this]
      exact ⟨h1, h2, h3, h4⟩
  · rw [hx] at hb ⊢
    split at hb
    · next hc =>
      rw [if_pos hc]
      show (s.axis b).arrival.isSome = true
      rw [(stand g b hc.1).2.2.1]; rfl
    · next hc => rw [if_neg hc]; exact sent b hb

theorem groupsStand_clears {s : State} {g : GroupId} {y : Group} (hy : y.arrived = 0)
    (hs : GroupsStand s.axis s.group) : GroupsStand (s.setGroup g y).axis (s.setGroup g y).group := by
  refine ⟨fun k b hb => ?_, hs.2⟩
  rw [group_setGroup] at hb ⊢
  split at hb
  · simp [hy, hasAxis] at hb
  · next hk => rw [if_neg hk]; exact hs.1 k b hb

theorem group_resetBlocks (s : State) (g : GroupId) : (resetBlocks s).group g = Group.reset := by
  simp [resetBlocks, State.group, State.reset]

/-- R80 is kept where an axis changes apart from its arrival mark and its release. -/
theorem GroupsStand.setAxis {s t : State} {a : AxisId} {x' : Axis} (hs : GroupsStand s.axis s.group)
    (hx : t.axes = (s.setAxis a x').axes) (hg : t.groups = s.groups) (ha : x'.arrival = (s.axis a).arrival)
    (hr : x'.releaseSent = (s.axis a).releaseSent) : GroupsStand t.axis t.group := by
  have h1 : t.axis = fun b => if b = a then x' else s.axis b := funext fun b => axis_of_axes_set hx b
  have h2 : t.group = s.group := funext fun g => group_congr hg g
  rw [h1, h2]
  exact (Regroups.stays (s := s) (a := a) (x' := x') ha hr).stand hs

theorem GroupsStand.frame {s t : State} (hs : GroupsStand s.axis s.group) (hx : t.axes = s.axes)
    (hg : t.groups = s.groups) : GroupsStand t.axis t.group := by
  have h1 : t.axis = s.axis := funext (axis_congr hx)
  have h2 : t.group = s.group := funext (group_congr hg)
  rw [h1, h2]; exact hs

theorem Micro.groupsStand {s t : State} (h : Micro ok s t) (hs : GroupsStand s.axis s.group) :
    GroupsStand t.axis t.group := by
  have moved : ∀ {a x' n G} {u : State}, Regroups s a x' G →
      Retires n { s.setAxis a x' with groups := G } u → GroupsStand u.axis u.group := by
    intro a x' n G u hg hr
    have h1 : u.axis = fun b => if b = a then x' else s.axis b :=
      funext fun b => axis_of_axes_set (s := s) hr.axes b
    rw [h1]
    exact (hg.stand hs).congr hr.groups
  cases h with
  | quiet hr => exact hr.groupsStand hs
  | move _ hg hr => exact moved hg hr
  | executes _ _ _ hg hr =>
    have := moved hg hr
    exact this
  | completes => exact groupsStand_completes hs
  | clears hy => exact groupsStand_clears hy hs
  | pends _ _ _ => exact hs.setAxis (t := endExecution _) rfl rfl rfl rfl
  | places _ _ _ => exact hs.setAxis (t := State.modAxis _ _ _) rfl rfl rfl rfl
  | answers _ hr => exact hr.groupsStand hs
  | rests _ _ _ _ hr => exact hr.groupsStand hs
  | readEnds _ _ hr => exact hr.groupsStand hs
  | adminReadEnds _ _ _ _ _ hr => exact hr.groupsStand hs
  | posts _ hr => exact hr.groupsStand hs
  | adminRing _ hr => exact hr.groupsStand hs
  | resetting _ hr => exact hr.groupsStand hs
  | issuesAxis _ _ | issuesAdmin _ _ =>
    exact hs.frame (issueReadOf_axes _ s) (issueReadOf_groups _ s)
  | resets =>
    refine ⟨fun g b hb => ?_, fun b hb => ?_⟩
    · rw [group_resetBlocks] at hb
      simp [Group.reset, hasAxis] at hb
    · rw [axis_resetBlocks] at hb
      cases hb
  | _ => exact hs

/-- No row begins with a change of a group. -/
theorem Begins.groups {s t : State} (h : Begins s t) : t.groups = s.groups := by
  cases h <;> rfl

end Sys2Proof.Machine
end

section
/-! The laws of the queues and of the reservations against the small changes of the part (R116, R134, R137, R140,
R154 to R159). -/

namespace Sys2Proof.Machine

variable {ok : Prop}

/-! ### The read in flight -/

/-- The ring and the reservation of the read outstanding, which is all that the laws read of it. -/
abbrev State.read (s : State) : Option (RingId × Bool) := s.readTxn.map fun r => (r.ring, r.reserved)

theorem readInFlight_eq (s : State) (a : AxisId) : s.readInFlight a = s.read.any (·.1 == .axis a) := by
  unfold State.readInFlight State.read
  cases s.readTxn <;> rfl

theorem issueReadOf_read (ring : RingId) (s : State) :
    (issueReadOf ring s).read = some (ring, s.comp.ringSize != 0) := by
  cases ring <;> rfl

theorem issueReadOf_comp (ring : RingId) (s : State) : (issueReadOf ring s).comp = { s.comp with
    reservations := s.comp.reservations + if s.comp.ringSize = 0 then 0 else 1 } := by
  by_cases h : s.comp.ringSize = 0 <;> cases ring <;> simp [issueReadOf, takeReservation, h] <;> rw [← h]

theorem issueReadOf_part (ring : RingId) (s : State) : (issueReadOf ring s).part = s.part := by
  unfold issueReadOf
  cases ring <;> dsimp only <;> split <;> rfl

theorem issueReadOf_meas (ring : RingId) (s : State) : (issueReadOf ring s).meas = s.meas := by
  unfold issueReadOf
  cases ring <;> dsimp only <;> split <;> rfl

/-! ### The FIFOs (R137) -/

/-- The places of a FIFO that are taken, where its records and the read in flight are known. -/
theorem placesTaken_le {s t : State} {a : AxisId} (hf : (t.axis a).fifo.length ≤ (s.axis a).fifo.length)
    (hr : t.read = s.read) : t.placesTaken a ≤ s.placesTaken a := by
  unfold State.placesTaken
  rw [readInFlight_eq t, readInFlight_eq s, hr]
  omega

theorem placesTaken_le_of_no_read {s t : State} {a : AxisId}
    (hf : (t.axis a).fifo.length ≤ (s.axis a).fifo.length) (hr : t.readTxn = none) :
    t.placesTaken a ≤ s.placesTaken a := by
  unfold State.placesTaken
  rw [readInFlight_eq t, State.read, hr]
  exact Nat.le_trans hf (Nat.le_add_right _ _)

theorem placesTaken_issueReadOf (ring : RingId) (s : State) (a : AxisId) :
    (issueReadOf ring s).placesTaken a = (s.axis a).fifo.length + (ring == .axis a).toNat := by
  unfold State.placesTaken
  rw [axis_congr (issueReadOf_axes ring s), readInFlight_eq, issueReadOf_read]
  rfl

theorem Micro.placesTaken {s t : State} (h : Micro ok s t) (a : AxisId) :
    t.placesTaken a ≤ s.placesTaken a ∨ t.placesTaken a ≤ 4 := by
  have same : ∀ {u : State}, u.axes = s.axes → u.read = s.read → u.placesTaken a ≤ s.placesTaken a :=
    fun hx hr => placesTaken_le (by rw [axis_congr hx]) hr
  have gone : ∀ {u : State}, u.axes = s.axes → u.readTxn = none → u.placesTaken a ≤ s.placesTaken a :=
    fun hx hr => placesTaken_le_of_no_read (by rw [axis_congr hx]) hr
  have moved : ∀ {b x'} {u : State}, u.axes = (s.setAxis b x').axes → u.read = s.read →
      x'.fifo.length ≤ (s.axis b).fifo.length → u.placesTaken a ≤ s.placesTaken a := by
    intro b x' u hx hr hf
    refine placesTaken_le ?_ hr
    rw [axis_of_axes_set hx]
    split
    · next e => rw [e]; exact hf
    · exact le_refl _
  have ended : ∀ {n} {u : State}, Retires n { s with readTxn := none } u →
      u.placesTaken a ≤ s.placesTaken a := fun hr => gone hr.axes (by simpa using hr.read)
  cases h with
  | move hm _ hr => exact .inl (moved hr.axes hr.read hm.fifo_length_le)
  | executes _ _ hx _ hr =>
    refine .inl (moved (u := endExecution _) hr.axes hr.read ?_)
    rcases hx with ⟨ho, _⟩ | hm
    · rw [ho.fifo_eq]
    · exact hm.fifo_length_le
  | pends _ _ _ => exact .inl (moved (u := endExecution _) rfl rfl (le_refl _))
  | @places r b seg hr hb _ =>
    refine .inl ?_
    by_cases e : a = b
    · subst e
      simp [State.placesTaken, State.readInFlight, hr, hb, State.modAxis]
      exact le_refl _
    · refine placesTaken_le_of_no_read ?_ rfl
      rw [axis_modAxis_ne _ _ e]
      exact le_refl _
  | @issuesAxis b hn he =>
    have places : s.placesTaken b < 4 := by
      simp only [State.axisEligible, Bool.and_eq_true, Config.fifoDepth] at he
      exact of_decide_eq_true he.1.1.2
    rw [placesTaken_issueReadOf]
    by_cases e : b = a
    · subst e
      have : (s.axis b).fifo.length ≤ s.placesTaken b := Nat.le_add_right _ _
      exact .inr (by simp; omega)
    · have : (RingId.axis b == RingId.axis a) = false := by simpa using e
      exact .inl (by simp [this, State.placesTaken])
  | issuesAdmin _ _ =>
    rw [placesTaken_issueReadOf]
    have : (RingId.admin == RingId.axis a) = false := rfl
    exact .inl (by simp [this, State.placesTaken])
  | quiet hr => exact .inl (same hr.axes hr.read)
  | answers _ hr => exact .inl (same (u := endExecution _) hr.axes hr.read)
  | rests _ _ _ _ hr => exact .inl (same hr.axes hr.read)
  | posts _ hr => exact .inl (same hr.axes hr.read)
  | adminRing _ hr => exact .inl (same hr.axes hr.read)
  | resetting _ hr => exact .inl (same hr.axes hr.read)
  | readEnds _ _ hr => exact .inl (ended hr)
  | adminReadEnds _ _ _ _ _ hr => exact .inl (gone hr.axes (by simpa using hr.read))
  | discardsRead _ => exact .inl (gone rfl rfl)
  | completes =>
    refine .inl (placesTaken_le ?_ (by obtain ⟨axes, he⟩ := sendReleases_eq _ _; rw [he]; rfl))
    rw [axis_sendReleases]
    split <;> exact le_refl _
  | resets =>
    refine .inr ?_
    unfold State.placesTaken
    rw [axis_resetBlocks, readInFlight_eq]
    exact Nat.zero_le _
  | _ => exact .inl (le_refl _)

theorem Micro.fifosBounded {s t : State} (h : Micro ok s t) (hs : FifosBounded s) : FifosBounded t := by
  intro a
  have bounded : s.placesTaken a ≤ 4 := hs a
  have goal : t.placesTaken a ≤ 4 := (h.placesTaken a).elim (fun k => k.trans bounded) id
  exact goal

theorem Begins.fifosBounded {s t : State} (h : Begins s t) (hs : FifosBounded s) : FifosBounded t := by
  intro a
  have bounded : s.placesTaken a ≤ 4 := hs a
  have hf : (t.axis a).fifo.length ≤ (s.axis a).fifo.length := by rw [axis_congr h.axes]
  have goal : t.placesTaken a ≤ s.placesTaken a := by
    cases h with
    | accepts _ _ _ _ => exact placesTaken_le_of_no_read hf rfl
    | ringless _ htxn _ | ringSetUp _ htxn _ _ _ =>
      rcases htxn with ⟨e, _⟩ | ⟨e, _⟩ <;> subst e
      · exact placesTaken_le hf rfl
      · exact placesTaken_le_of_no_read hf rfl
    | _ => exact placesTaken_le hf rfl
  exact goal.trans bounded

/-! ### The indices of the rings (R134, R154) -/

theorem ringOk_advance {c : CompletionUnit} (h : RingOk c.ringSize c.producer c.consumer) :
    RingOk c.advance.ringSize c.advance.producer c.advance.consumer := by
  show RingOk c.ringSize (nextIndex c.ringSize c.producer) c.consumer
  unfold nextIndex
  split
  · next hz => rcases h with h | h <;> omega
  · next hz =>
    refine .inl ⟨Nat.mod_lt _ (by omega), ?_⟩
    rcases h with h | h <;> omega

/-- The indices of the completion ring stay within it. -/
theorem Micro.compRing {s t : State} (h : Micro ok s t)
    (hs : RingOk s.comp.ringSize s.comp.producer s.comp.consumer) :
    RingOk t.comp.ringSize t.comp.producer t.comp.consumer := by
  have kept : ∀ {n} {u v : State}, Retires n u v → RingOk u.comp.ringSize u.comp.producer u.comp.consumer →
      RingOk v.comp.ringSize v.comp.producer v.comp.consumer := by
    intro n u v hr hu
    rwa [hr.ringSize, hr.producer, hr.consumer]
  cases h with
  | quiet hr | move _ _ hr | rests _ _ _ _ hr | readEnds _ _ hr | adminReadEnds _ _ _ _ _ hr
  | adminRing _ hr | resetting _ hr => exact kept hr hs
  | executes _ _ _ _ hr => have := kept hr hs; exact this
  | answers _ hr => have := kept hr hs; exact this
  | posts _ hr => exact kept hr (ringOk_advance hs)
  | consumes hv _ =>
    rcases hs with ⟨hp, _⟩ | ⟨hz, _⟩
    · exact .inl ⟨hp, hv⟩
    · omega
  | ringMoves _ _ _ hsize => have := Nat.lt_of_lt_of_le (by decide : 0 < 4) hsize; exact .inl ⟨this, this⟩
  | issuesAxis _ _ | issuesAdmin _ _ => rw [issueReadOf_comp]; exact hs
  | completes => obtain ⟨axes, he⟩ := sendReleases_eq _ _; rw [he]; exact hs
  | resets => exact .inr ⟨rfl, rfl, rfl⟩
  | _ => exact hs

theorem Begins.compRing {s t : State} (h : Begins s t)
    (hs : RingOk s.comp.ringSize s.comp.producer s.comp.consumer) :
    RingOk t.comp.ringSize t.comp.producer t.comp.consumer := by
  cases h with
  | ringSetUp _ _ _ hsize _ => have := Nat.lt_of_lt_of_le (by decide : 0 < 4) hsize; exact .inl ⟨this, this⟩
  | _ => exact hs

/-- The indices of the administrative ring stay within it. -/
theorem Micro.adminRingOk {s t : State} (h : Micro ok s t)
    (hs : RingOk s.admin.ringSize s.admin.producer s.admin.consumer) :
    RingOk t.admin.ringSize t.admin.producer t.admin.consumer := by
  have kept : ∀ {n} {u v : State}, Retires n u v →
      RingOk u.admin.ringSize u.admin.producer u.admin.consumer →
      RingOk v.admin.ringSize v.admin.producer v.admin.consumer := by
    intro n u v hr hu
    obtain ⟨h1, h2⟩ := Prod.mk.inj hr.adminRing
    obtain ⟨h2, h3⟩ := Prod.mk.inj h2
    rwa [h1, h2, h3]
  cases h with
  | quiet hr | move _ _ hr | rests _ _ _ _ hr | readEnds _ _ hr | adminReadEnds _ _ _ _ _ hr
  | resetting _ hr | posts _ hr => exact kept hr hs
  | executes _ _ _ _ hr => have := kept hr hs; exact this
  | answers _ hr => have := kept hr hs; exact this
  | adminRing hr' hr => exact kept hr hr'
  | adminProduces hv =>
    rcases hs with ⟨_, hc⟩ | ⟨hz, _⟩
    · exact .inl ⟨hv, hc⟩
    · omega
  | issuesAxis _ _ | issuesAdmin _ _ => rw [issueReadOf_admin]; exact hs
  | completes => obtain ⟨axes, he⟩ := sendReleases_eq _ _; rw [he]; exact hs
  | resets => exact .inr ⟨rfl, rfl, rfl⟩
  | _ => exact hs

theorem Begins.adminRingOk {s t : State} (h : Begins s t)
    (hs : RingOk s.admin.ringSize s.admin.producer s.admin.consumer) :
    RingOk t.admin.ringSize t.admin.producer t.admin.consumer := by
  cases h with
  | accepts _ _ _ hi | acceptsAtOnce _ _ hi | ringless _ _ hi | ringSetUp _ _ hi _ _ =>
    rcases hi with e | e <;> subst e
    · exact hs
    · exact ringOk_nextIndex hs
  | _ => exact hs

/-! ### The converter's queue (R116) -/

/-- What the law reads of a request. -/
abbrev request (q : ConvRequest) : ConvSource × Progress := (q.source, q.progress)

/-- R116, said of sources and progresses. -/
def ConverterSound (l : List (ConvSource × Progress)) : Prop :=
  (l.map (·.1)).Nodup ∧ (∀ p ∈ l.head?, (⟨p.1, false, p.2⟩ : ConvRequest).headOk = true) ∧
    ∀ p ∈ l.tail, p.2 = .waiting

theorem conversionQueueSound_iff (s : State) :
    ConversionQueueSound s ↔ ConverterSound (s.meas.queue.map request) := by
  have head : ∀ q : ConvRequest, q.headOk = (⟨q.source, false, q.progress⟩ : ConvRequest).headOk := fun _ => rfl
  unfold ConversionQueueSound ConverterSound
  cases s.meas.queue with
  | nil => simp
  | cons q rest => simp [request, head q, Function.comp_def]

theorem headOk_firstProgress (src : ConvSource) :
    (⟨src, false, src.firstProgress⟩ : ConvRequest).headOk = true := by cases src <;> rfl

theorem converterSound_join {m : Measurement} {src : ConvSource} (ho : m.occupied src = false)
    (h : ConverterSound (m.queue.map request)) : ConverterSound ((m.join src).queue.map request) := by
  obtain ⟨nodup, head, tail⟩ := h
  unfold Measurement.join
  rcases hq : m.queue with _ | ⟨q, rest⟩
  · exact ⟨by simp, by simp [request, headOk_firstProgress], by simp⟩
  · have new : src ∉ (m.queue.map request).map (·.1) := by
      simpa [Measurement.occupied] using ho
    rw [hq] at nodup head tail new
    refine ⟨?_, ?_, ?_⟩
    · have : ((q :: rest ++ [(⟨src, false, .waiting⟩ : ConvRequest)]).map request).map (·.1) =
          ((q :: rest).map request).map (·.1) ++ [src] := by simp [request]
      rw [this]
      exact List.Nodup.append nodup (by simp) (List.disjoint_singleton.mpr new)
    · simpa using head
    · simp only [List.cons_append, List.map_cons, List.tail_cons, List.map_append, List.mem_append] at tail ⊢
      rintro p (hp | hp)
      · exact tail p hp
      · simp [request] at hp; rw [hp]

theorem converterSound_dropHead {m : Measurement} (h : ConverterSound (m.queue.map request)) :
    ConverterSound (m.dropHead.queue.map request) := by
  obtain ⟨nodup, head, tail⟩ := id h
  unfold Measurement.dropHead
  rcases hq : m.queue with _ | ⟨q, _ | ⟨q', rest⟩⟩
  · rw [hq] at h; simpa [hq] using h
  · exact ⟨by simp, by simp, by simp⟩
  · rw [hq] at nodup tail
    refine ⟨by simpa [request, ConvRequest.begin] using (List.nodup_cons.mp nodup).2, ?_, ?_⟩
    · simp [request, ConvRequest.begin, headOk_firstProgress]
    · intro p hp
      exact tail p (by simpa using Or.inr hp)

theorem converterSound_endLegU {m : Measurement} (h : ConverterSound (m.queue.map request)) :
    ConverterSound (m.endLegU.queue.map request) := by
  obtain ⟨nodup, head, tail⟩ := id h
  unfold Measurement.endLegU
  rcases hq : m.queue with _ | ⟨q, rest⟩
  · rw [hq] at h; simpa [hq] using h
  · rw [hq] at nodup head tail
    dsimp only
    split
    · next hu =>
      refine ⟨by simpa [request] using nodup, ?_, by simpa [request] using tail⟩
      simp only [List.map_cons, List.head?_cons, Option.mem_def, Option.some.injEq, forall_eq', request] at head ⊢
      revert head
      cases q.source <;> simp [ConvRequest.headOk, hu]
    · rw [hq]; exact ⟨nodup, head, tail⟩

theorem Micro.converterSound {s t : State} (h : Micro ok s t) (hs : ConverterSound (s.meas.queue.map request)) :
    ConverterSound (t.meas.queue.map request) := by
  have kept : ∀ {n} {u v : State}, Retires n u v → ConverterSound (u.meas.queue.map request) →
      ConverterSound (v.meas.queue.map request) := by
    intro n u v hr hu
    have : v.meas.queue.map request = u.meas.queue.map request := hr.requests
    rwa [this]
  cases h with
  | quiet hr | move _ _ hr | rests _ _ _ _ hr | readEnds _ _ hr | adminReadEnds _ _ _ _ _ hr
  | resetting _ hr | posts _ hr | adminRing _ hr => exact kept hr hs
  | executes _ _ _ _ hr => have := kept hr hs; exact this
  | answers _ hr => have := kept hr hs; exact this
  | joinsQueue ho => exact converterSound_join ho hs
  | dropsHead => exact converterSound_dropHead hs
  | endsLegU => exact converterSound_endLegU hs
  | issuesAxis _ _ | issuesAdmin _ _ => rw [issueReadOf_meas]; exact hs
  | completes => obtain ⟨axes, he⟩ := sendReleases_eq _ _; rw [he]; exact hs
  | resets => exact ⟨List.nodup_nil, by simp [resetBlocks, State.reset, Measurement.reset],
      by simp [resetBlocks, State.reset, Measurement.reset]⟩
  | _ => exact hs

theorem Begins.meas {s t : State} (h : Begins s t) : t.meas = s.meas := by
  cases h <;> rfl

/-- R116, R134, R137, R154 under a small change. -/
theorem Micro.queuesSound {s t : State} (h : Micro ok s t) (hs : QueuesSound s) : QueuesSound t := by
  obtain ⟨fifos, ⟨axes, admin, comp⟩, queue⟩ := hs
  refine ⟨h.fifosBounded fifos, ⟨?_, h.adminRingOk admin, h.compRing comp⟩, ?_⟩
  · exact h.forall_axis (P := fun x => RingOk x.ringSize x.producer x.consumer)
      (fun _ _ _ _ he hx => he.ringOk hx) axes
  · rw [conversionQueueSound_iff] at queue ⊢
    exact h.converterSound queue

theorem Begins.queuesSound {s t : State} (h : Begins s t) (hs : QueuesSound s) : QueuesSound t := by
  obtain ⟨fifos, ⟨axes, admin, comp⟩, queue⟩ := hs
  refine ⟨h.fifosBounded fifos, ⟨?_, h.adminRingOk admin, h.compRing comp⟩, ?_⟩
  · exact h.forall_axis (P := fun x => RingOk x.ringSize x.producer x.consumer) axes
  · rw [conversionQueueSound_iff] at queue ⊢
    rwa [h.meas]

end Sys2Proof.Machine
end

section
/-! The law of the reservations against the small changes of the part (R140, R155 to R159). -/

namespace Sys2Proof.Machine

variable {ok : Prop}

/-! ### The admin unit and its read (R139, R171, R187) -/

/-- What the law says of the read outstanding. -/
def ReadHolds (state : AdminState) (ringSize : Nat) (p : RingId × Bool) : Prop :=
  match p.1 with
  | .axis _ => p.2 = true
  | .admin => state = .fetching ∧ p.2 = (ringSize != 0)

theorem adminHolds_iff (s : State) : AdminHolds s ↔
    (s.admin.current.isSome = true → s.admin.state = .executing) ∧
    (s.admin.snapshot.isSome = true → s.admin.current.isSome = true) ∧
    ∀ p ∈ s.read, ReadHolds s.admin.state s.comp.ringSize p := by
  refine and_congr_right fun _ => and_congr_right fun _ => ?_
  unfold State.read ReadHolds
  rcases s.readTxn with _ | r
  · simp
  · rcases hr : r.ring with a | _ <;> simp [hr]

/-- With no read of the administrative ring outstanding the law does not read the unit's state. -/
theorem ReadHolds.of_ne_fetching {state state' : AdminState} {ringSize ringSize' : Nat} {p : RingId × Bool}
    (h : ReadHolds state ringSize p) (hs : state ≠ .fetching) : ReadHolds state' ringSize' p := by
  obtain ⟨_ | _, reserved⟩ := p
  · exact h
  · exact absurd h.1 hs

theorem Retires.adminHolds {n : Nat} {s t : State} (h : Retires n s t) (hs : AdminHolds s) : AdminHolds t := by
  rw [adminHolds_iff] at hs ⊢
  have hr : t.read = s.read := h.read
  rwa [h.adminState, h.current, h.snapshot, h.ringSize, hr]

/-- The law where no command is held: no snapshot is either, and an administrative read is FETCHING. -/
theorem adminHolds_of_no_command {s : State} (hc : s.admin.current = none) (hw : s.admin.snapshot = none)
    (hr : ∀ p ∈ s.read, ReadHolds s.admin.state s.comp.ringSize p) : AdminHolds s := by
  rw [adminHolds_iff]
  exact ⟨by simp [hc], by simp [hw], hr⟩

/-- A command that is held rules a read of the administrative ring out. -/
theorem AdminHolds.read_of_current {s : State} {state : AdminState} {ringSize : Nat} (h : AdminHolds s)
    (hc : s.admin.current.isSome = true) : ∀ p ∈ s.read, ReadHolds state ringSize p := by
  rw [adminHolds_iff] at h
  obtain ⟨executing, _, read⟩ := h
  intro p hp
  exact (read p hp).of_ne_fetching (by rw [executing hc]; decide)

theorem AdminHolds.no_command {s : State} (h : AdminHolds s) (hs : s.admin.state ≠ .executing) :
    s.admin.current = none ∧ s.admin.snapshot = none := by
  obtain ⟨executing, snapshot, _⟩ := h
  have hc : s.admin.current = none := by
    by_contra hn
    exact hs (executing (Option.isSome_iff_ne_none.mpr hn))
  refine ⟨hc, ?_⟩
  by_contra hn
  have := snapshot (Option.isSome_iff_ne_none.mpr hn)
  simp [hc] at this

theorem adminHolds_endExecution {s : State} (h : AdminHolds s) (hc : s.admin.current.isSome = true) :
    AdminHolds (endExecution s) :=
  adminHolds_of_no_command rfl rfl (h.read_of_current hc)

theorem Micro.adminHolds {s t : State} (h : Micro ok s t) (hs : AdminHolds s) : AdminHolds t := by
  obtain ⟨executing, snapshot, read⟩ := (adminHolds_iff s).mp hs
  cases h with
  | quiet hr | move _ _ hr | posts _ hr | adminRing _ hr => exact hr.adminHolds hs
  | executes _ hc _ _ hr =>
    have := hr.adminHolds (s := { s.setAxis _ _ with groups := _ }) hs
    exact adminHolds_endExecution this (by rw [hr.current]; exact hc)
  | pends hc _ _ => exact adminHolds_endExecution (s := s.setAxis _ _) hs hc
  | answers hw hr =>
    exact adminHolds_endExecution (hr.adminHolds hs) (by rw [hr.current]; exact snapshot hw)
  | ringMoves hc _ _ _ => exact adminHolds_of_no_command rfl rfl (hs.read_of_current hc)
  | forms hc =>
    rw [adminHolds_iff]
    exact ⟨executing, fun _ => hc, read⟩
  | rests h1 h2 _ _ hr =>
    obtain ⟨hc, hw⟩ := hs.no_command h1
    exact hr.adminHolds (adminHolds_of_no_command hc hw fun p hp => (read p hp).of_ne_fetching h2)
  | readEnds _ _ hr =>
    refine hr.adminHolds ?_
    rw [adminHolds_iff]
    exact ⟨executing, snapshot, by simp [State.read]⟩
  | discardsRead _ =>
    rw [adminHolds_iff]
    exact ⟨executing, snapshot, by simp [State.read]⟩
  | places _ _ _ =>
    rw [adminHolds_iff]
    exact ⟨executing, snapshot, by simp [State.read, State.modAxis, State.setAxis]⟩
  | @adminReadEnds _ r _ _ _ hr' hring _ _ _ hr =>
    have fetching : s.admin.state = .fetching := by
      have := read (r.ring, r.reserved) (by simp [State.read, hr'])
      rw [hring] at this
      exact this.1
    obtain ⟨hc, hw⟩ := hs.no_command (by rw [fetching]; decide)
    exact hr.adminHolds (adminHolds_of_no_command hc hw (by simp [State.read]))
  | @issuesAxis a _ he =>
    have ring : s.comp.ringSize ≠ 0 := by
      simp only [State.axisEligible, State.grantable, Bool.and_eq_true, bne_iff_ne] at he
      exact he.2.1.1
    rw [adminHolds_iff, issueReadOf_admin, issueReadOf_read]
    exact ⟨executing, snapshot, by simp [ReadHolds, ring]⟩
  | issuesAdmin _ he =>
    have waiting : s.admin.state = .waiting := by
      simp only [State.adminEligible, Bool.and_eq_true, beq_iff_eq] at he
      exact he.1.1.2
    obtain ⟨hc, hw⟩ := hs.no_command (by rw [waiting]; decide)
    refine adminHolds_of_no_command (by rw [issueReadOf_admin]; exact hc) (by rw [issueReadOf_admin]; exact hw) ?_
    rw [issueReadOf_read, issueReadOf_admin, issueReadOf_comp]
    simp [ReadHolds]
  | resetting hw hr =>
    refine hr.adminHolds ?_
    rw [adminHolds_iff]
    exact ⟨executing, fun h => snapshot (hw h), read⟩
  | completes => obtain ⟨axes, he⟩ := sendReleases_eq _ _; rw [he]; exact hs
  | resets => exact adminHolds_of_no_command rfl rfl (by simp [State.read, resetBlocks, State.reset])
  | _ => exact hs

theorem Begins.adminHolds {s t : State} (h : Begins s t) (hs : AdminHolds s) : AdminHolds t := by
  obtain ⟨executing, snapshot, read⟩ := (adminHolds_iff s).mp hs
  cases h with
  | accepts _ _ _ _ =>
    rw [adminHolds_iff]
    exact ⟨fun _ => rfl, fun _ => rfl, by simp [State.read]⟩
  | acceptsAtOnce hw _ _ =>
    rw [adminHolds_iff]
    exact ⟨fun _ => rfl, fun _ => rfl, fun p hp => (read p hp).of_ne_fetching (by rw [hw]; decide)⟩
  | ringless _ htxn _ | ringSetUp _ htxn _ _ _ =>
    refine adminHolds_of_no_command rfl rfl ?_
    rcases htxn with ⟨e, hw⟩ | ⟨e, _⟩ <;> subst e
    · exact fun p hp => (read p hp).of_ne_fetching (by rw [hw]; decide)
    · simp [State.read, endExecution]
  | _ => exact hs

/-! ### The work held (R140) -/

/-- The reservations the four axes hold. -/
def State.axesWork (s : State) : Nat :=
  (s.axis 0).workHeld + (s.axis 1).workHeld + (s.axis 2).workHeld + (s.axis 3).workHeld

theorem axesWork_congr {s t : State} (h : t.axes = s.axes) : t.axesWork = s.axesWork := by
  simp only [State.axesWork, axis_congr h]

theorem axesWork_set {s t : State} {a : AxisId} {x' : Axis} (h : t.axes = (s.setAxis a x').axes) :
    t.axesWork + (s.axis a).workHeld = s.axesWork + x'.workHeld := by
  simp only [State.axesWork, axis_of_axes_set h]
  fin_cases a <;> simp <;> omega

theorem workHeld_eq (s : State) : s.workHeld =
    s.axesWork + (s.read.map fun p => p.2.toNat).getD 0 + s.admin.current.toList.length := by
  unfold State.workHeld State.axesWork State.read
  cases s.readTxn <;> rfl

/-- The ledger balances but for n reservations, which are held for work that no block holds any more. -/
def Owes (n : Nat) (s : State) : Prop :=
  s.part ≠ .resetting →
    s.comp.reservations = s.comp.queue.length + (s.workHeld + n) ∧ s.comp.reservations ≤ 16 ∧
    (s.comp.ringSize ≠ 0 → s.comp.posted + s.comp.reservations ≤ s.comp.ringSize - 1) ∧
    (s.comp.ringSize = 0 → s.comp.reservations = 0)

theorem owes_zero_iff (s : State) : Owes 0 s ↔ LedgerBalanced s := Iff.rfl

/-- Work that a block gives up is owed, and work that one takes on is paid. -/
theorem Owes.shift {n m : Nat} {s t : State} (h : Owes m s) (hp : s.part = .resetting → t.part = .resetting)
    (hc : t.comp = s.comp) (hw : t.workHeld + n = s.workHeld + m) : Owes n t := by
  intro ht
  obtain ⟨h1, h2, h3, h4⟩ := h (fun e => ht (hp e))
  rw [hc]
  exact ⟨by omega, h2, h3, h4⟩

/-- The ledger reads the completion unit, the part state and the work held. -/
theorem LedgerBalanced.frame {s t : State} (h : LedgerBalanced s) (hp : s.part = .resetting → t.part = .resetting)
    (hc : t.comp = s.comp) (hw : t.workHeld = s.workHeld) : LedgerBalanced t :=
  Owes.shift (n := 0) (m := 0) h hp hc (by rw [hw])

/-- Work that is retired pays what is owed for it (R140, R157). -/
theorem Retires.owes {n : Nat} {s t : State} (h : Retires n s t) (hs : Owes n s) : Owes 0 t := by
  intro ht
  obtain ⟨h1, h2, h3, h4⟩ := hs (h.part ▸ ht)
  obtain ⟨handed, released, hle, heq, hq, hr⟩ := h.ledger
  have work : t.workHeld = s.workHeld := by
    have read : t.read = s.read := h.read
    rw [workHeld_eq, workHeld_eq, axesWork_congr h.axes, read, h.current]
  have posted : t.comp.posted = s.comp.posted := by
    simp only [CompletionUnit.posted, h.ringSize, h.producer, h.consumer]
  rw [h.ringSize, posted, work, hq, hr]
  refine ⟨?_, by omega, fun hz => ?_, fun hz => ?_⟩
  · by_cases hz : s.comp.ringSize = 0
    · have := h4 hz; omega
    · have := heq hz; omega
  · have := h3 hz; omega
  · have := h4 hz; omega

theorem Retires.endExecution {n : Nat} {s t : State} (h : Retires n s t) :
    Retires n (endExecution s) (endExecution t) :=
  { h with adminState := rfl, current := rfl, snapshot := rfl }

theorem workHeld_endExecution {s : State} (hc : s.admin.current.isSome = true) :
    (endExecution s).workHeld + 1 = s.workHeld := by
  obtain ⟨c, hc⟩ := Option.isSome_iff_exists.mp hc
  simp [workHeld_eq, hc, endExecution, State.axesWork, State.axis]

/-! ### Occupancies (R134, R154) -/

theorem occupancyOf_eq_ite {size i consumer : Nat} (hi : i < size) (hc : consumer < size) :
    occupancyOf size i consumer = if consumer ≤ i then i - consumer else i + size - consumer := by
  unfold occupancyOf
  rw [if_neg (by omega)]
  split
  · rw [show i + size - consumer = i - consumer + size by omega, Nat.add_mod_right, Nat.mod_eq_of_lt (by omega)]
  · rw [Nat.mod_eq_of_lt (by omega)]

/-- A record that is posted adds at most one to those unconsumed (R159). -/
theorem posted_advance_le {c : CompletionUnit} (h : RingOk c.ringSize c.producer c.consumer)
    (hz : c.ringSize ≠ 0) : c.advance.posted ≤ c.posted + 1 := by
  obtain ⟨hp, hc⟩ : c.producer < c.ringSize ∧ c.consumer < c.ringSize := by omega
  show occupancyOf c.ringSize (nextIndex c.ringSize c.producer) c.consumer ≤
    occupancyOf c.ringSize c.producer c.consumer + 1
  rw [nextIndex, if_neg hz, occupancyOf_eq_ite (Nat.mod_lt _ (by omega)) hc, occupancyOf_eq_ite hp hc]
  rcases Nat.lt_or_ge (c.producer + 1) c.ringSize with hlt | hge
  · rw [Nat.mod_eq_of_lt hlt]
    split <;> split <;> omega
  · rw [show c.producer + 1 = c.ringSize by omega, Nat.mod_self]
    split <;> split <;> omega

/-- A consumer index that moves towards the producer index leaves no more unconsumed (R162). -/
theorem occupancyOf_consumed_le {size producer consumer v : Nat} (hp : producer < size) (hc : consumer < size)
    (hv : v < size) (h : occupancyOf size v consumer ≤ occupancyOf size producer consumer) :
    occupancyOf size producer v ≤ occupancyOf size producer consumer := by
  rw [occupancyOf_eq_ite hv hc, occupancyOf_eq_ite hp hc] at h
  rw [occupancyOf_eq_ite hp hv, occupancyOf_eq_ite hp hc]
  split at h <;> split at h <;> split <;> omega

/-! ### The ledger -/

theorem grantable_iff (s : State) : s.grantable = true ↔ Grants s := by
  rw [State.grantable, Bool.and_eq_true, Bool.and_eq_true, bne_iff_ne, decide_eq_true_iff, decide_eq_true_iff,
    and_assoc]
  rfl

/-- A grant, taken for a piece of work that begins, keeps the ledger balanced (R155). -/
theorem ledgerBalanced_grant {s t : State} (hs : LedgerBalanced s) (hg : Grants s)
    (hp : s.part = .resetting → t.part = .resetting)
    (hc : t.comp = { s.comp with reservations := s.comp.reservations + 1 })
    (hw : t.workHeld = s.workHeld + 1) : LedgerBalanced t := by
  intro ht
  obtain ⟨h1, h2, h3, h4⟩ := hs (fun e => ht (hp e))
  obtain ⟨g1, g2, g3⟩ := hg
  have hr : t.comp.reservations = s.comp.reservations + 1 := by rw [hc]
  have hq : t.comp.queue = s.comp.queue := by rw [hc]
  have hz : t.comp.ringSize = s.comp.ringSize := by rw [hc]
  have hposted : t.comp.posted = s.comp.posted := by rw [hc]; rfl
  rw [hr, hq, hz, hposted]
  exact ⟨by omega, by omega, fun _ => by omega, fun h => absurd h g1⟩

/-- SET_COMPLETION_RING moves a ring on which nothing but its own reservation is held (R163, R178). -/
theorem ledgerBalanced_moveTo {t : State} {size : Nat} (hz : 4 ≤ size) (hw : t.workHeld = 0)
    (hr : t.comp.reservations = 1) (hq : t.comp.queue.length = 1) (hs : t.comp.ringSize = size)
    (hp : t.comp.posted = 0) : LedgerBalanced t := by
  intro _
  rw [hr, hq, hw, hs, hp]
  exact ⟨rfl, by omega, fun _ => by omega, fun h => by omega⟩

theorem posted_moveTo (c : CompletionUnit) (base : Word) (size : Nat) : (c.moveTo base size).posted = 0 := by
  show occupancyOf size 0 0 = 0
  unfold occupancyOf
  split
  · rfl
  · simp

theorem completionRingFree_reservations {s : State} (h : completionRingFree s = true) :
    s.comp.reservations = if s.comp.ringSize = 0 then 0 else 1 := by
  simp only [completionRingFree, Bool.and_eq_true, beq_iff_eq] at h
  exact h.2

/-- An axis and the command in execution change what they hold, and nothing else does. -/
theorem workHeld_set {s t : State} {a : AxisId} {x' : Axis} {n m k : Nat}
    (hx : t.axes = (s.setAxis a x').axes) (hr : t.read = s.read) (hw : x'.workHeld + n = (s.axis a).workHeld + m)
    (hc : t.admin.current.toList.length + k = s.admin.current.toList.length) :
    t.workHeld + (n + k) = s.workHeld + m := by
  have := axesWork_set hx
  rw [workHeld_eq, workHeld_eq, hr]
  omega

/-- A read that ends gives up the reservation it held. -/
theorem workHeld_read_ends {s t : State} {r : ReadTxn} (h : s.readTxn = some r) (hx : t.axes = s.axes)
    (hr : t.readTxn = none) (hc : t.admin.current = s.admin.current) :
    t.workHeld + r.reserved.toNat = s.workHeld := by
  rw [workHeld_eq, workHeld_eq, axesWork_congr hx, hc]
  simp [State.read, h, hr]
  omega

theorem workHeld_issueReadOf {ring : RingId} {s : State} (h : s.readTxn = none) :
    (issueReadOf ring s).workHeld = s.workHeld + (s.comp.ringSize != 0).toNat := by
  have hc : (issueReadOf ring s).admin.current = s.admin.current := by rw [issueReadOf_admin]
  rw [workHeld_eq, workHeld_eq, axesWork_congr (issueReadOf_axes ring s), hc, issueReadOf_read]
  simp [State.read, h]
  omega

/-- A read is issued with a reservation granted for it, or none where no ring is configured (R140). -/
theorem ledgerBalanced_issueReadOf {ring : RingId} {s : State} (h : s.readTxn = none)
    (hg : s.comp.ringSize = 0 ∨ s.grantable = true) (hs : LedgerBalanced s) :
    LedgerBalanced (issueReadOf ring s) := by
  have work := workHeld_issueReadOf (ring := ring) h
  have comp := issueReadOf_comp ring s
  have part := issueReadOf_part ring s
  rcases hg with hz | hg
  · exact hs.frame (by rw [part]; exact id) (by rw [comp, if_pos hz]; rfl) (by rw [work, hz]; rfl)
  · have grants := (grantable_iff s).mp hg
    refine ledgerBalanced_grant hs grants (by rw [part]; exact id) (by rw [comp, if_neg grants.1]) ?_
    rw [work, bne_iff_ne.mpr grants.1]
    rfl

theorem axesWork_sendReleases (l : List AxisId) (s : State) :
    (l.foldl (fun s b => sendRelease b s) s).axesWork = s.axesWork := by
  have same : ∀ a, ((l.foldl (fun s b => sendRelease b s) s).axis a).workHeld = (s.axis a).workHeld := by
    intro a
    rw [axis_sendReleases]
    split <;> rfl
  simp only [State.axesWork, same]

/-- After reset no work is held and no reservation is (R20, R151, R169, R171). -/
theorem ledgerBalanced_resetBlocks (s : State) : LedgerBalanced (resetBlocks s) := by
  have axes : (resetBlocks s).axesWork = 0 := by simp only [State.axesWork, axis_resetBlocks]; rfl
  have work : (resetBlocks s).workHeld = 0 := by rw [workHeld_eq, axes]; rfl
  intro _
  rw [work]
  exact ⟨rfl, Nat.zero_le _, fun h => absurd rfl h, fun _ => rfl⟩

/-- R140, R155, R157, R159 under a small change. -/
theorem Micro.ledgerBalanced {s t : State} (hok : ok) (h : Micro ok s t) (axes : AxesHoldByState s)
    (admin : AdminHolds s) (ring : RingOk s.comp.ringSize s.comp.producer s.comp.consumer)
    (hs : LedgerBalanced s) : LedgerBalanced t := by
  have owes : Owes 0 s := hs
  cases h with
  | quiet hr => exact hr.owes hs
  | @move _ a x' n G hm _ hr =>
    exact hr.owes (owes.shift id rfl (workHeld_set (t := { s.setAxis a x' with groups := G }) (k := 0) rfl rfl
      (hm.workHeld hok (axes a)) rfl))
  | @executes u a x' n G _ hc hx _ hr =>
    have held : x'.workHeld + n = (s.axis a).workHeld := by
      rcases hx with ⟨ho, hn⟩ | hm
      · rw [hn]; exact ho.workHeld_eq
      · exact hm.workHeld hok (axes a)
    have work := workHeld_set (s := s) (t := { s.setAxis a x' with groups := G }) (n := n) (m := 0) (k := 0)
      rfl rfl held rfl
    have ends := workHeld_endExecution (s := { s.setAxis a x' with groups := G }) hc
    exact hr.endExecution.owes (owes.shift id rfl (by omega))
  | @pends a tag hc ha hn =>
    have one : (s.axis a).pendingStop.toList.length = 0 := by rw [hn]; rfl
    have work := workHeld_set (s := s) (n := 0) (m := 1) (k := 0)
      (t := s.setAxis a { s.axis a with pendingStop := some tag }) rfl rfl
      (by simp only [Axis.workHeld, Option.toList_some, List.length_singleton]; omega) rfl
    have ends := workHeld_endExecution (s := s.setAxis a { s.axis a with pendingStop := some tag }) hc
    exact hs.frame id rfl (by omega)
  | answers hw hr =>
    have ends := workHeld_endExecution (admin.2.1 hw)
    exact hr.endExecution.owes (owes.shift id rfl (by omega))
  | @ringMoves base size done hc hz hfree hsize =>
    intro ht
    obtain ⟨h1, _⟩ := hs ht
    have ends := workHeld_endExecution hc
    have hres := completionRingFree_reservations hfree
    rw [if_neg hz] at hres
    have hq : s.comp.queue = [] := List.eq_nil_of_length_eq_zero (by omega)
    refine ledgerBalanced_moveTo hsize (Eq.trans (b := (endExecution s).workHeld) rfl (by omega)) ?_ ?_ rfl
      (posted_moveTo s.comp base size) ht
    · show (if s.comp.ringSize = 0 then s.comp.reservations else s.comp.reservations - 1) + 1 = 1
      rw [if_neg hz]; omega
    · show (s.comp.queue ++ [_]).length = 1
      rw [hq]; rfl
  | rests _ _ _ _ hr | adminRing _ hr => exact hr.owes (owes.shift id rfl rfl)
  | issuesAxis hn he =>
    simp only [State.axisEligible, Bool.and_eq_true] at he
    exact ledgerBalanced_issueReadOf hn (.inr he.2) hs
  | issuesAdmin hn he =>
    simp only [State.adminEligible, Bool.and_eq_true, Bool.or_eq_true, beq_iff_eq] at he
    exact ledgerBalanced_issueReadOf hn he.2 hs
  | @places r a seg hr hring ha =>
    have reserved : r.reserved = true := by
      have := admin.2.2 r hr
      simpa [hring] using this
    refine hs.frame id rfl ?_
    have ends := workHeld_read_ends (t := { s with readTxn := none }) hr rfl rfl rfl
    rw [reserved] at ends
    have taken : ({ s.axis a with fifo := (s.axis a).fifo ++ [seg]
                                  consumer := nextIndex (s.axis a).ringSize (s.axis a).consumer } :
        Axis).workHeld + 0 = (s.axis a).workHeld + 1 := by
      simp only [Axis.workHeld, List.length_append, List.length_singleton]; omega
    have placed := workHeld_set (s := { s with readTxn := none }) (k := 0)
      (t := State.modAxis { s with readTxn := none } a fun x =>
        { x with fifo := x.fifo ++ [seg], consumer := nextIndex x.ringSize x.consumer })
      rfl rfl taken rfl
    simp only [Bool.toNat_true] at ends
    omega
  | readEnds hr _ ht =>
    have ends := workHeld_read_ends (t := { s with readTxn := none }) hr rfl rfl rfl
    exact ht.owes (owes.shift id rfl ends)
  | @adminReadEnds _ r _ _ n hr hring _ _ hn ht =>
    refine ht.owes ?_
    have ends := workHeld_read_ends (t := { s with
      readTxn := none, admin := { s.admin with state := _, haltReason := _ } }) hr rfl rfl rfl
    rcases hn with hn | ⟨hn, hz⟩
    · exact owes.shift id rfl (by rw [hn]; exact ends)
    · have reserved : r.reserved = false := by
        have := admin.2.2 r hr
        simp only [hring, hz] at this
        exact this.2
      rw [reserved] at ends
      exact owes.shift id rfl (by rw [hn]; exact ends)
  | posts hq ht =>
    refine ht.owes fun hp => ?_
    obtain ⟨h1, h2, h3, h4⟩ := hs hp
    rw [hq, List.length_cons] at h1
    have hz : s.comp.ringSize ≠ 0 := fun hz => by have := h4 hz; omega
    have := posted_advance_le ring hz
    have := h3 hz
    refine ⟨?_, ?_, fun _ => ?_, fun h => absurd h hz⟩
    · show s.comp.reservations - 1 = _ + (s.workHeld + 0)
      simp only [releaseReservations]; omega
    · show s.comp.reservations - 1 ≤ 16
      omega
    · show s.comp.advance.posted + (s.comp.reservations - 1) ≤ s.comp.ringSize - 1
      omega
  | discards =>
    intro hp
    obtain ⟨h1, h2, h3, h4⟩ := hs hp
    refine ⟨?_, ?_, fun hz => ?_, fun hz => ?_⟩
    · show s.comp.reservations - s.comp.queue.length = 0 + s.workHeld
      omega
    · show s.comp.reservations - s.comp.queue.length ≤ 16
      omega
    · show s.comp.posted + (s.comp.reservations - s.comp.queue.length) ≤ s.comp.ringSize - 1
      have := h3 hz; omega
    · show s.comp.reservations - s.comp.queue.length = 0
      have := h4 hz; omega
  | @consumes v hv ho =>
    intro hp
    obtain ⟨h1, h2, h3, h4⟩ := hs hp
    refine ⟨h1, h2, fun hz => ?_, h4⟩
    obtain ⟨hprod, hcons⟩ : s.comp.producer < s.comp.ringSize ∧ s.comp.consumer < s.comp.ringSize := by omega
    have := occupancyOf_consumed_le hprod hcons hv ho
    have := h3 hz
    show occupancyOf s.comp.ringSize s.comp.producer v + s.comp.reservations ≤ s.comp.ringSize - 1
    have : s.comp.posted = occupancyOf s.comp.ringSize s.comp.producer s.comp.consumer := rfl
    omega
  | @completes a g =>
    have work := axesWork_sendReleases
      ((axesOf ((s.group g).arrived ||| axisBit a)).filter (· ≠ a)) (s.setGroup g (s.group g).afterRelease)
    obtain ⟨vector, he⟩ := sendReleases_eq
      ((axesOf ((s.group g).arrived ||| axisBit a)).filter (· ≠ a)) (s.setGroup g (s.group g).afterRelease)
    rw [he] at work ⊢
    refine hs.frame id rfl ?_
    rw [workHeld_eq, workHeld_eq, work]
    rfl
  | discardsRead hp => exact fun ht => absurd hp ht
  | resetting _ ht => exact fun hp => absurd ht.part hp
  | becomes hp => exact hs.frame (fun e => absurd e hp) rfl rfl
  | resets => exact ledgerBalanced_resetBlocks s
  | _ => exact hs.frame id rfl rfl

/-! ### The law (R155, R157, R159) -/

theorem Micro.reservationLaw {s t : State} (hok : ok) (h : Micro ok s t) (hs : ReservationLaw s) :
    ReservationLaw t := by
  obtain ⟨axes, admin, ring, ledger⟩ := hs
  exact ⟨h.forall_axis (P := Axis.HoldsByState) (fun _ _ _ _ he => he.holdsByState hok) axes,
    h.adminHolds admin, h.compRing ring, h.ledgerBalanced hok axes admin ring ledger⟩

/-- The work held, where no axis changes what it holds. -/
theorem workHeld_of_axes {s t : State} {n m : Nat} (hx : t.axes = s.axes)
    (hr : (t.read.map fun p => p.2.toNat).getD 0 + n = (s.read.map fun p => p.2.toNat).getD 0)
    (hc : t.admin.current.toList.length = s.admin.current.toList.length + m) :
    t.workHeld + n = s.workHeld + m := by
  rw [workHeld_eq, workHeld_eq, axesWork_congr hx]
  omega

/-- With no completion ring configured there is no work and no completion waits (R140, R176). -/
theorem nothing_owed_of_no_ring {s : State} (h : LedgerBalanced s) (hz : s.comp.ringSize = 0)
    (hp : s.part ≠ .resetting) : s.comp.reservations = 0 ∧ s.comp.queue.length = 0 ∧ s.workHeld = 0 := by
  obtain ⟨h1, _, _, h4⟩ := h hp
  have := h4 hz
  omega

/-- A command that leaves no work where there was none. -/
theorem workHeld_le_ends {s : State} {i : Nat} {txn : Option ReadTxn}
    (htxn : txn = s.readTxn ∧ s.admin.state = .waiting ∨ txn = none ∧ ∃ r, s.readTxn = some r ∧ r.ring = .admin) :
    (endExecution { s with readTxn := txn, admin := { s.admin with consumer := i } }).workHeld ≤ s.workHeld := by
  rw [workHeld_eq, workHeld_eq]
  have read : ((endExecution { s with readTxn := txn, admin := { s.admin with consumer := i } }).read.map
      fun p => p.2.toNat).getD 0 ≤ (s.read.map fun p => p.2.toNat).getD 0 := by
    rcases htxn with ⟨e, _⟩ | ⟨e, _⟩ <;> subst e
    · exact le_refl _
    · exact Nat.zero_le _
  exact Nat.add_le_add (Nat.add_le_add (le_refl _) read) (Nat.zero_le _)

theorem Begins.ledgerBalanced {s t : State} (h : Begins s t) (admin : AdminHolds s) (hs : LedgerBalanced s) :
    LedgerBalanced t := by
  cases h with
  | @accepts r c i hr hring hz _ =>
    obtain ⟨fetching, reserved⟩ : s.admin.state = .fetching ∧ r.reserved = (s.comp.ringSize != 0) := by
      have := admin.2.2 r hr
      rwa [hring] at this
    have idle := (admin.no_command (by rw [fetching]; decide)).1
    have reserved : r.reserved = true := by rw [reserved]; exact bne_iff_ne.mpr hz
    refine hs.frame id rfl ?_
    have := workHeld_of_axes (s := s) (n := 1) (m := 1)
      (t := { s with readTxn := none, admin := { s.admin with
        state := .executing, current := some c, consumer := i } }) rfl
      (by simp [State.read, hr, reserved]) (by simp [idle])
    omega
  | @acceptsAtOnce c i hw hg _ =>
    have idle := (admin.no_command (by rw [hw]; decide)).1
    exact ledgerBalanced_grant hs ((grantable_iff s).mp hg) id rfl
      (workHeld_of_axes (s := s) (n := 0) (m := 1)
        (t := { takeReservation s with admin := { s.admin with
          state := .executing, current := some c, consumer := i } }) rfl rfl (by simp [idle]))
  | @ringless i txn hz htxn _ =>
    intro hp
    obtain ⟨hres, hq, hw⟩ := nothing_owed_of_no_ring hs hz hp
    have := workHeld_le_ends (i := i) htxn
    refine ⟨?_, ?_, fun h => absurd hz h, fun _ => hres⟩
    · show s.comp.reservations = s.comp.queue.length + _
      omega
    · show s.comp.reservations ≤ 16
      omega
  | @ringSetUp i txn base size done hz htxn _ hsize hres =>
    intro hp
    obtain ⟨_, hq, hw⟩ := nothing_owed_of_no_ring hs hz hp
    have := workHeld_le_ends (i := i) htxn
    refine ledgerBalanced_moveTo hsize (Eq.trans
      (b := (endExecution { s with readTxn := txn, admin := { s.admin with consumer := i } }).workHeld) rfl
      (by omega)) ?_ ?_ rfl (posted_moveTo s.comp base size) hp
    · show (if s.comp.ringSize = 0 then s.comp.reservations else s.comp.reservations - 1) + 1 = 1
      rw [if_pos hz]; omega
    · show (s.comp.queue ++ [done]).length = 1
      rw [List.length_append, hq]; rfl
  | _ => exact hs.frame id rfl rfl

theorem Begins.reservationLaw {s t : State} (h : Begins s t) (hs : ReservationLaw s) : ReservationLaw t := by
  obtain ⟨axes, admin, ring, ledger⟩ := hs
  exact ⟨h.forall_axis (P := Axis.HoldsByState) axes, h.adminHolds admin, h.compRing ring,
    h.ledgerBalanced admin ledger⟩

end Sys2Proof.Machine
end

section
/-! The events of an axis as chains of small changes: the sequencer, the trips and the carrier (chapters 2, 3, 5
and 6). -/

namespace Sys2Proof.Machine

variable {ok : Prop}

/-! ### Chains of small changes -/

theorem Retires.of_eq {s t : State} (h : t = s) : Retires 0 s t := h ▸ Retires.refl s

/-- `t` comes of `s` by small changes, where `ok` claims of `s` that every axis holds what its state lets it
hold. -/
def Leads (ok : Prop) (s t : State) : Prop := (ok → AxesHoldByState s) → Path ok s t

theorem Path.axesHold {s t : State} (path : Path ok s t) (hok : ok) (hs : AxesHoldByState s) :
    AxesHoldByState t :=
  path.keeps (P := AxesHoldByState)
    (fun _ _ hu hm => hm.forall_axis (P := Axis.HoldsByState) (fun _ _ _ _ he => he.holdsByState hok) hu) hs

namespace Leads

theorem refl (s : State) : Leads ok s s := fun _ => .refl

theorem trans {s t u : State} (h : Leads ok s t) (k : Leads ok t u) : Leads ok s u := fun hs =>
  (h hs).trans (k fun hok => (h hs).axesHold hok (hs hok))

theorem of_micro {s t : State} (h : Micro ok s t) : Leads ok s t := fun _ => .single h

theorem quiet {s t : State} (h : Retires 0 s t) : Leads ok s t := of_micro (.quiet h)

/-- What an axis makes of itself, with the completions it hands over. -/
theorem move {s t : State} {a : AxisId} {x' : Axis} {n : Nat} {G : Vector Group 8}
    (hm : (s.axis a).Move ok x' n) (hg : Regroups s a x' G)
    (hr : Retires n { s.setAxis a x' with groups := G } t) : Leads ok s t := of_micro (.move hm hg hr)

/-- An axis changes and the group table does not. -/
theorem moveAlone {s t : State} {a : AxisId} {x' : Axis} {n : Nat} (hm : (s.axis a).Move ok x' n)
    (hg : Regroups s a x' s.groups) (hr : Retires n (s.setAxis a x') t) : Leads ok s t := move hm hg hr

/-- An axis changes in nothing that a law speaks of. -/
theorem alike {s : State} {a : AxisId} {x' : Axis} (h : (s.axis a).Alike x') : Leads ok s (s.setAxis a x') :=
  moveAlone (.minor h) (.stays h.arrival h.releaseSent) (Retires.refl _)

/-- Events taken in any order. -/
theorem takeInOrder {α : Type} (take : α → State → State) (htake : ∀ e s, Leads ok s (take e s))
    (bound : Nat) (due : List α) (s : State) : Leads ok s (takeInOrder take bound due s) :=
  takeInOrder_keeps (P := Leads ok s) take (fun _ n h => h.trans (quiet (Retires.bookkeeping _ _ n)))
    (fun e t h => h.trans (htake e t)) bound due s (refl s)

end Leads

/-! ### A record examined at the head of a FIFO (R10, R24) -/

/-- A record that passes the checks is a MARK or has a legal new half-period (R10, check 4). -/
theorem isMark_or_periodOk {s : State} {a : AxisId} {seg : Segment} (h : validate s a seg = none) :
    seg.isMark = true ∨ seg.PeriodOk (s.axis a).config := by
  rw [validate_eq] at h
  unfold failedCheckAt failedCheck at h
  split_ifs at h with h1 h2 h3 h4 h5
  rw [isMark_eq, decide_eq_true_iff, or_iff_not_imp_left]
  intro hk
  by_contra hp
  simp only [Segment.PeriodOk, not_or] at hp
  exact h4 ⟨hk, hp.1, hp.2⟩

/-- A record with RDV that passes the checks names a group of its axis (R10, check 5). -/
theorem member_of_valid {s : State} {a : AxisId} {seg : Segment} (h : validate s a seg = none)
    (hr : seg.rdv = true) : hasAxis (s.group seg.groupId).members a = true := by
  rw [validate_eq] at h
  unfold failedCheckAt failedCheck at h
  split_ifs at h with h1 h2 h3 h4 h5
  by_contra hn
  exact h5 ⟨hr, by simpa using hn⟩

theorem completeOk_axis (a b : AxisId) (seg : Segment) (n : Nat) (st : Stats) (s : State) :
    (completeOk a seg n st s).axis b = s.axis b := by
  rw [completeOk_eq]; exact endedOk_axis a b seg n st s

/-- A head examined that is staged. -/
theorem leads_stageHead {a : AxisId} {seg : Segment} {rest : List Segment} {s : State}
    (hx : (s.axis a).Examining ok) (hf : (s.axis a).fifo = seg :: rest) (hm : seg.isMark = false)
    (hp : seg.PeriodOk (s.axis a).config) : Leads ok s (stageHead a seg rest s) :=
  .moveAlone (.stage hx hf hm hp) (.stays rfl rfl) (Retires.refl _)

/-- A MARK examined that completes. -/
theorem leads_completeMark {a : AxisId} {seg : Segment} {rest : List Segment} {s : State}
    (hx : (s.axis a).Examining ok) (hf : (s.axis a).fifo = seg :: rest) :
    Leads ok s (completeMark a seg rest s) :=
  .moveAlone (.mark hx hf) (.stays rfl rfl) (Retires.completeOk (s.setAxis a _) a seg 0 .zero)

theorem axis_completeMark (a : AxisId) (seg : Segment) (rest : List Segment) (s : State) :
    (completeMark a seg rest s).axis a =
      { (s.axis a).popped rest with endPermission := seg.endOk } := by
  rw [completeMark, completeOk_axis, axis_modAxis_self]

/-- The axes to which a release is sent as axis a completes the set of group g (R82). -/
def releasedOthers (a : AxisId) (g : GroupId) (s : State) : List AxisId :=
  (axesOf ((s.group g).arrived ||| axisBit a)).filter (· ≠ a)

/-- The group as axis a joins it (R81, R84). -/
def Group.joinedBy (y : Group) (a : AxisId) : Group := y.joined (y.arrived ||| axisBit a)

/-- All that an arrival can come to (R81, R82, R88). -/
theorem arrive_cases (a : AxisId) (g : GroupId) (s : State) :
    arrive a g s = (s, .refused) ∨
    arrive a g s = ((releasedOthers a g s).foldl (fun s b => sendRelease b s)
      (s.setGroup g (s.group g).afterRelease), .released) ∨
    arrive a g s = (s.setGroup g ((s.group g).joinedBy a), .waits) := by
  unfold arrive
  dsimp only
  cases hs : (s.group g).state
  case broken => exact .inl rfl
  all_goals
    dsimp only
    by_cases hm : (s.group g).arrived ||| axisBit a = (s.group g).members
    · rw [if_pos hm]
      exact .inr (.inl rfl)
    · rw [if_neg hm]
      refine .inr (.inr ?_)
      unfold Group.joinedBy Group.joined
      rw [hs]

/-- An axis that completes a set is not among those to which a release is sent. -/
theorem axis_releasedOthers (a : AxisId) (g : GroupId) (s : State) :
    ((releasedOthers a g s).foldl (fun s b => sendRelease b s)
      (s.setGroup g (s.group g).afterRelease)).axis a = s.axis a := by
  rw [axis_sendReleases, if_neg (by simp [releasedOthers])]
  rfl

theorem Axis.Examining.popped {x : Axis} {rest : List Segment} {p : Bool} (h : x.Examining ok) :
    ({ x.popped rest with endPermission := p } : Axis).Examining ok :=
  ⟨h.active, h.playing, h.staged, h.arrival⟩

/-- The examination of a FIFO (R24). -/
theorem leads_examine (a : AxisId) (l : List Segment) (s : State) (hx : (s.axis a).Examining ok)
    (hf : (s.axis a).fifo = l) : Leads ok s (examine a l s) := by
  induction l generalizing s with
  | nil => exact .refl s
  | cons seg rest ih =>
    have resumes : ∀ u : State, (u.axis a).Examining ok → (u.axis a).fifo = seg :: rest →
        Leads ok u (examine a rest (completeMark a seg rest u)) := by
      intro u hu hfu
      refine (leads_completeMark hu hfu).trans (ih _ ?_ ?_)
      · rw [axis_completeMark]; exact hu.popped
      · rw [axis_completeMark]; rfl
    unfold examine
    split
    · exact .quiet (Retires.report _ _ _)
    · next hv =>
      have hv : validate s a seg = none := by simpa using hv
      have period := isMark_or_periodOk hv
      split
      · next hr =>
        rcases arrive_cases a seg.groupId s with he | he | he <;> rw [he]
        · exact .quiet (Retires.report _ _ _)
        · have same := axis_releasedOthers a seg.groupId s
          refine (Leads.of_micro (.completes (a := a) (g := seg.groupId))).trans ?_
          dsimp only
          split
          · exact resumes _ (same ▸ hx) (same ▸ hf)
          · next hm =>
            have hm : seg.isMark = false := by simpa using hm
            refine leads_stageHead (same ▸ hx) (same ▸ hf) hm ?_
            rw [hm] at period
            have := period.resolve_left (by decide)
            exact (congrArg Axis.config same).symm ▸ this
        · exact .move (.joins hx hf period) (.joins hx.arrival rfl rfl (member_of_valid hv hr)) (Retires.refl _)
      · split
        · exact resumes s hx hf
        · next hm =>
          have hm : seg.isMark = false := by simpa using hm
          rw [hm] at period
          exact leads_stageHead hx hf hm (period.resolve_left (by decide))

theorem leads_stagingPoint {a : AxisId} {s : State} (ha : (s.axis a).state.isActive = true)
    (hp : (s.axis a).state ≠ .waitRdv) : Leads ok s (stagingPoint a s) := by
  unfold stagingPoint
  dsimp only
  split
  · next h =>
    simp only [Bool.and_eq_true, Option.isNone_iff_eq_none] at h
    exact leads_examine a _ s ⟨ha, hp, fun _ => h.1.2, h.2⟩ rfl
  · exact .refl s

/-! ### Releases (R26, R27) -/

/-- The axis once a release has ended its wait at the group. -/
def Axis.freed (x : Axis) : Axis := { x with releaseSent := false, arrival := none }

theorem leads_takeRelease (a : AxisId) (s : State) : Leads ok s (takeRelease a s) := by
  intro hold
  refine (show Leads ok s (takeRelease a s) from ?_) hold
  unfold takeRelease
  dsimp only
  split
  · exact .refl s
  · next hr =>
    have sent : (s.axis a).releaseSent = true := by simpa using hr
    have lost : Leads ok s (s.setAxis a { s.axis a with releaseSent := false }) :=
      .moveAlone (.releaseLost sent) (.released sent rfl) (Retires.refl _)
    have freed : (s.setAxis a { s.axis a with releaseSent := false }).modAxis a ({ · with arrival := none }) =
        s.setAxis a (s.axis a).freed := by simp [modAxis_eq, Axis.freed]
    split
    · next g seg rest hg hf =>
      rw [freed]
      split
      · next hw =>
        split
        · refine .moveAlone (.releaseMarkWait hg hf hw) (.released sent rfl) ?_
          have := (Retires.completeOk (s.setAxis a { (s.axis a).freed.popped rest with endPermission := seg.endOk })
            a seg 0 .zero).setAxis a
            { s.axis a with
              releaseSent := false, arrival := none, fifo := rest, endPermission := seg.endOk
              state := .starved, grace := 0 }
          simpa [completeMark, modAxis_eq, completeOk_axis, Axis.freed, Axis.popped] using this
        · next hm =>
          refine .moveAlone (.releaseHeadWait hg hf hw (by simpa using hm)) (.released sent rfl) ?_
          exact .of_eq (by simp [modAxis_eq, Axis.freed])
      · next hw =>
        split
        · next ha =>
          split
          · have marks : Leads ok s (completeMark a seg rest (s.setAxis a (s.axis a).freed)) := by
              refine .moveAlone (.releaseMark hg hf ha hw) (.released sent rfl) ?_
              have := Retires.completeOk (s.setAxis a { s.axis a with
                releaseSent := false, arrival := none, fifo := rest, endPermission := seg.endOk }) a seg 0 .zero
              simpa [completeMark, modAxis_eq, Axis.freed, Axis.popped] using this
            split
            · refine marks.trans (leads_examine a rest _ ?_ ?_)
              · rw [axis_completeMark, axis_setAxis_self]
                have unstaged : ok → (s.axis a).staged = none := fun hok => (hold hok a).2.2.1 (by rw [hg]; rfl)
                exact ⟨ha, hw, unstaged, rfl⟩
              · rw [axis_completeMark]; rfl
            · exact marks
          · next hm =>
            refine .moveAlone (.releaseStage hg hf ha hw (by simpa using hm)) (.released sent rfl) ?_
            exact .of_eq (by simp [stageHead, modAxis_eq, Axis.freed])
        · exact lost
    · exact lost

/-! ### The peak (R23) -/

theorem leads_sequencerPeak (a : AxisId) (s : State) : Leads ok s (sequencerPeak a s) := by
  unfold sequencerPeak
  dsimp only
  split
  · next hs =>
    split
    · split
      · exact .alike (.of_governed rfl rfl (.inr rfl))
      · exact leads_stagingPoint (by rw [hs]; rfl) (by rw [hs]; decide)
    · exact .refl s
  · next hs =>
    split
    · exact leads_stagingPoint (by rw [hs]; rfl) (by rw [hs]; decide)
    · exact .refl s
  · next hs => exact leads_stagingPoint (by rw [hs]; rfl) (by rw [hs]; decide)
  · next hs =>
    split
    · next seg rest hr hf =>
      refine .moveAlone (.stageReleased hs hr hf) (.stays rfl rfl) ?_
      exact .of_eq (by simp [stageHead, modAxis_eq])
    · exact .refl s
  all_goals exact .refl s

/-! ### Trips and reports (R33, R95, R96) -/

theorem length_tripCompletions (s : State) (a : AxisId) (c : TripCause) :
    (tripCompletions s a c).length = (s.axis a).workHeld := by
  unfold tripCompletions Axis.workHeld
  dsimp only
  cases (s.axis a).fifo <;> simp <;> omega

/-- The groups a trip leaves do not depend on what else the trip changes. -/
theorem groups_breakGroups_congr {s t : State} (a : AxisId) (h : t.groups = s.groups) :
    (breakGroups a t).groups = (breakGroups a s).groups := by
  rw [breakGroups_eq, breakGroups_eq]
  simp only [group_congr h]

theorem handOff_groups (cs : List Completion) (s : State) : (handOff cs s).groups = s.groups := by
  unfold handOff
  split
  · rfl
  · split <;> rfl

theorem completeOk_groups (a : AxisId) (seg : Segment) (n : Nat) (st : Stats) (s : State) :
    (completeOk a seg n st s).groups = s.groups := by
  unfold completeOk
  split
  · rfl
  · exact handOff_groups _ s

theorem leads_tripAxis {a : AxisId} (c : TripCause) {s : State} (ha : s.activeAxis a = true) :
    Leads ok s (tripAxis a c s) := by
  refine .move (.trip (cause := c) (now := s.timebase) ha) (.breaks rfl rfl) ?_
  unfold tripAxis
  refine Retires.trans (m := 0) ?_ (Retires.raise _ _)
  have handed := ((Retires.markStale (s.setAxis a ((s.axis a).trip c s.timebase)) a).trans
    (Retires.handOff _ (tripCompletions s a c))).setGroups (breakGroups a s).groups
  rw [length_tripCompletions, Nat.zero_add] at handed
  refine handed.trans (m := 0) ?_
  have groups : (handOff (tripCompletions s a c)
      (markStale a (s.setAxis a ((s.axis a).trip c s.timebase)))).groups = s.groups :=
    handOff_groups _ _
  rw [← groups_breakGroups_congr a groups, breakGroups_eq]
  exact Retires.bookkeeping _ _ _

theorem leads_takeReport (r : Report) (s : State) : Leads ok s (takeReport r s) := by
  have active : (s.axis r.axis).state.isActive = true → Leads ok s (tripAxis r.axis r.cause s) :=
    leads_tripAxis r.cause
  unfold takeReport
  split
  · exact .refl s
  · cases hs : (s.axis r.axis).state <;> dsimp only
    case idle => exact .refl s
    case tripped => exact .moveAlone .later (.stays rfl rfl) (Retires.refl _)
    all_goals exact active (by rw [hs]; rfl)

theorem leads_takeAxisReport (r : Report) (s : State) : Leads ok s (takeAxisReport r s) := by
  unfold takeAxisReport
  split
  · exact (Leads.quiet (Retires.bookkeeping s _ s.freeCount)).trans (leads_takeReport r _)
  · exact .refl s

theorem leads_takeInFlight (p : Report → Bool) (s : State) : Leads ok s (takeInFlight p s) :=
  .takeInOrder _ leads_takeAxisReport _ _ s

theorem leads_takeReportsUpTo (bound : Nat) (s : State) : Leads ok s (takeReportsUpTo bound s) := by
  induction bound generalizing s with
  | zero => exact .refl s
  | succ bound ih =>
    unfold takeReportsUpTo
    split
    · exact .refl s
    · exact (Leads.quiet (Retires.bookkeeping s _ _)).trans ((leads_takeReport _ _).trans (ih _))

theorem leads_takeReports (s : State) : Leads ok s (takeReports s) := leads_takeReportsUpTo _ s

/-- A part of an event takes its own reports at its instant. -/
theorem leads_takingOwn {f : State → State} {s : State}
    (hf : Leads ok { s with reports := [] } (f { s with reports := [] })) : Leads ok s (takingOwn f s) := by
  have taken : ∀ (l : List Report) (t : State), Leads ok t (l.foldl (fun u r => takeReport r u) t) := by
    intro l
    induction l with
    | nil => exact Leads.refl
    | cons r l ih => exact fun t => (leads_takeReport r t).trans (ih _)
  unfold takingOwn
  exact (Leads.quiet (Retires.bookkeeping s [] s.freeCount)).trans (hf.trans
    ((Leads.quiet (Retires.bookkeeping _ s.reports _)).trans (taken _ _)))

theorem leads_finishGroup (a : AxisId) (s : State) : Leads ok s (finishGroup a s) :=
  (leads_takeInFlight _ s).trans (leads_takingOwn (leads_takeRelease a _))

/-! ### The valley (R28 to R31, R38) -/

/-- The group that a stopping axis leaves does not depend on what else has changed. -/
theorem groups_depart_congr {s t : State} {a : AxisId} (h : t.groups = s.groups)
    (ha : (t.axis a).arrival = (s.axis a).arrival) : (depart a t).groups = (depart a s).groups := by
  have hg := group_congr h
  unfold depart
  rw [ha]
  split
  · exact h
  · dsimp only
    rw [hg]
    split
    · simp only [State.setGroup, h]
    · exact h

theorem depart_eq_groups (a : AxisId) (s : State) : depart a s = { s with groups := (depart a s).groups } := by
  unfold depart
  split
  · rfl
  · dsimp only
    split <;> rfl

/-- An axis that leaves its group and stops for good, its completions handed over. -/
theorem retires_departure {s u : State} {a : AxisId} {x : Axis} {n : Nat} (x' : Axis) (cs : List Completion)
    (h : Retires n (s.setAxis a x) u) (hg : u.groups = s.groups) (ha : x.arrival = (s.axis a).arrival) :
    Retires (n + cs.length) { s.setAxis a x' with groups := (depart a s).groups }
      (handOff cs (markStale a ((depart a u).setAxis a x'))) := by
  have hu : u.axis a = x := (h.axis a).trans (axis_setAxis_self s a x)
  have groups := groups_depart_congr (a := a) hg (by rw [hu]; exact ha)
  have moved := (h.setAxis a x').setGroups (depart a s).groups
  rw [setAxis_setAxis] at moved
  have same : { u.setAxis a x' with groups := (depart a s).groups } = (depart a u).setAxis a x' := by
    rw [depart_eq_groups a u, groups]
    rfl
  rw [same] at moved
  exact (moved.trans (m := 0) (Retires.markStale _ a)).trans (Retires.handOff _ cs)

theorem length_flushedRecords (a : AxisId) (x : Axis) :
    (flushedRecords a x).length = x.staged.toList.length + x.fifo.length := by
  simp [flushedRecords]

/-- A pending stop takes effect, the active segment, if any, having closed (R38). -/
theorem leads_pendingStopEffect {s u : State} {a : AxisId} (tag : Half)
    (h : Retires (s.axis a).closes (s.setAxis a (s.axis a).closed) u) (hg : u.groups = s.groups)
    (ha : (s.axis a).state.isActive = true) (hp : (s.axis a).pendingStop.isSome = true) :
    Leads ok s (pendingStopEffect a tag u) := by
  have hu : u.axis a = (s.axis a).closed := (h.axis a).trans (axis_setAxis_self s a _)
  have hd : (depart a u).axis a = (s.axis a).closed := by rw [depart_eq_groups]; exact hu
  have closed : (s.axis a).closed.arrival = (s.axis a).arrival ∧ (s.axis a).closed.staged = (s.axis a).staged ∧
      (s.axis a).closed.fifo = (s.axis a).fifo := by
    unfold Axis.closed; split <;> exact ⟨rfl, rfl, rfl⟩
  obtain ⟨arrival, staged, fifo⟩ := closed
  refine .move (.stop ha hp) (.departs rfl rfl) ?_
  unfold pendingStopEffect
  dsimp only
  rw [hd]
  have := retires_departure (((s.axis a).closed.stopped .idle).skipped) (flushedRecords a (s.axis a).closed ++
    [adminCompletion tag .ok .none (.stopAxis (s.axis a).closed.occupancy)]) h hg arrival
  rwa [List.length_append, length_flushedRecords, staged, fifo, List.length_singleton, ← Nat.add_assoc,
    ← Nat.add_assoc] at this

/-- The boundary decision, the active segment, if any, having closed (R29). -/
theorem leads_boundaryCases {s u : State} {a : AxisId}
    (h : Retires (s.axis a).closes (s.setAxis a (s.axis a).closed) u) (hg : u.groups = s.groups)
    (ha : (s.axis a).state.isActive = true) : Leads ok s (boundaryCases a u) := by
  have hu : u.axis a = (s.axis a).closed := (h.axis a).trans (axis_setAxis_self s a _)
  have closed : (s.axis a).closed.state = (s.axis a).state ∧ (s.axis a).closed.arrival = (s.axis a).arrival ∧
      (s.axis a).closed.staged = (s.axis a).staged ∧ (s.axis a).closed.fifo = (s.axis a).fifo ∧
      (s.axis a).closed.pendingStop = (s.axis a).pendingStop ∧
      (s.axis a).closed.releaseSent = (s.axis a).releaseSent := by
    unfold Axis.closed; split <;> exact ⟨rfl, rfl, rfl, rfl, rfl, rfl⟩
  obtain ⟨state, arrival, staged, fifo, pending, sent⟩ := closed
  have set : ∀ x', Retires (s.axis a).closes (s.setAxis a x') (u.setAxis a x') := by
    intro x'
    have := h.setAxis a x'
    rwa [setAxis_setAxis] at this
  unfold boundaryCases
  dsimp only
  rw [hu]
  split
  · next tag hp => exact leads_pendingStopEffect tag h hg ha (by rw [← pending, hp]; rfl)
  · next seg hp hs => exact .moveAlone (.activate ha (staged ▸ hs)) (.stays arrival sent) (set _)
  · next hp hs =>
    have unstaged : (s.axis a).Unstaged := ⟨ha, pending ▸ hp, staged ▸ hs⟩
    split
    · next hw =>
      rw [arrival, state] at hw
      exact .moveAlone (.wait unstaged (by simpa using hw)) (.stays arrival sent) (set _)
    · next hw =>
      rw [arrival, state] at hw
      obtain ⟨noHead, notWaiting⟩ : (s.axis a).arrival = none ∧ (s.axis a).state ≠ .waitRdv := by
        simpa using hw
      split
      · refine .moveAlone (.runEnd unstaged noHead) (.ended noHead rfl rfl) ?_
        unfold runEnd
        dsimp only
        rw [hu]
        have := ((set ((s.axis a).closed.stopped .idle)).trans (m := 0) (Retires.markStale _ a)).trans
          (Retires.handOff _ ((s.axis a).closed.fifo.map (unplayed a .flushed .none)))
        rw [List.length_map, Nat.add_zero] at this
        rwa [← fifo]
      · unfold graceStep
        dsimp only
        rw [hu]
        have moves : ∀ k, Leads ok s (u.setAxis a { (s.axis a).closed with state := .starved, grace := k }) :=
          fun k => .moveAlone (.grace unstaged noHead notWaiting) (.stays arrival sent) (set _)
        generalize (if (s.axis a).closed.state = .starved then (s.axis a).closed.grace + 1 else 0) = k
        split
        · exact (moves k).trans (.quiet (Retires.report _ _ _))
        · exact moves k

/-- Where no segment is active nothing closes. -/
theorem Axis.closed_of_no_segment {x : Axis} (h : x.state ≠ .run ∨ x.active = none) :
    x.closed = x ∧ x.closes = 0 := by
  unfold Axis.closed Axis.closes
  by_cases hs : x.state = .run
  · have ha := h.resolve_left (not_not_intro hs)
    rw [if_pos hs, if_pos hs, ha]
    exact ⟨by rw [← ha], rfl⟩
  · rw [if_neg hs, if_neg hs]
    exact ⟨rfl, rfl⟩

theorem retires_of_no_segment {s : State} {a : AxisId} (h : (s.axis a).state ≠ .run ∨ (s.axis a).active = none) :
    Retires (s.axis a).closes (s.setAxis a (s.axis a).closed) s := by
  obtain ⟨h1, h2⟩ := Axis.closed_of_no_segment h
  rw [h1, h2, setAxis_axis]
  exact Retires.refl s

/-- The closing valley of an active segment (R14, R29). -/
theorem retires_closeActive {s : State} {a : AxisId} {g : ActiveSegment} (hs : (s.axis a).state = .run)
    (hg : (s.axis a).active = some g) :
    Retires (s.axis a).closes (s.setAxis a (s.axis a).closed) (closeActive a s) ∧
    (closeActive a s).groups = s.groups := by
  have h1 : (s.axis a).closed = { s.axis a with active := none } := if_pos hs
  have h2 : (s.axis a).closes = 1 := by rw [Axis.closes, if_pos hs, hg]; rfl
  unfold closeActive
  rw [hg, h1, h2]
  exact ⟨Retires.completeOk _ _ _ _ _, completeOk_groups _ _ _ _ _⟩

theorem leads_sequencerValley (a : AxisId) (s : State) : Leads ok s (sequencerValley a s) := by
  unfold sequencerValley
  dsimp only
  split
  · next hs =>
    have active : (s.axis a).state.isActive = true := by rw [hs]; rfl
    split
    · next g hg =>
      split
      · exact .alike (.of_governed rfl (by rw [hg]; rfl) (.inr rfl))
      · obtain ⟨closes, groups⟩ := retires_closeActive hs hg
        exact leads_boundaryCases closes groups active
    · next hg => exact leads_boundaryCases (retires_of_no_segment (.inr hg)) rfl active
  · next hs =>
    have active : (s.axis a).state.isActive = true := by rw [hs]; rfl
    have closes := retires_of_no_segment (s := s) (a := a) (.inl (by rw [hs]; decide))
    split
    · exact leads_boundaryCases closes rfl active
    · split
      · next tag hp => exact leads_pendingStopEffect tag closes rfl active (by rw [hp]; rfl)
      · exact .alike (.of_governed rfl rfl (.inr rfl))
  · next hs =>
    exact leads_boundaryCases (retires_of_no_segment (.inl (by rw [hs]; decide))) rfl (by rw [hs]; rfl)
  · next hs =>
    exact leads_boundaryCases (retires_of_no_segment (.inl (by rw [hs]; decide))) rfl (by rw [hs]; rfl)
  all_goals exact .refl s

/-! ### Whole events of an axis (R23, R49, R83) -/

theorem leads_axisRequest (a : AxisId) (s : State) : Leads ok s (axisRequest a s) := by
  unfold axisRequest
  split
  · exact .refl s
  · split
    · exact .alike (.of_governed rfl Option.isSome_map (.inr rfl))
    · next ho => exact .of_micro (.joinsQueue (by simpa using ho))

theorem leads_peakEvent (a : AxisId) (s : State) : Leads ok s (peakEvent a s) := by
  unfold peakEvent
  split
  · next h =>
    obtain ⟨active, _⟩ : s.activeAxis a = true ∧ s.live = true := by
      simp only [State.carrierRuns, Bool.and_eq_true] at h
      exact ⟨h.1.2, h.1.1⟩
    have turned : Leads ok s (s.modAxis a fun x => { x with carrierCount := x.workH, rising := false }) :=
      .alike (.of_governed rfl rfl (.inl active))
    exact turned.trans ((leads_axisRequest a _).trans (leads_takingOwn (leads_sequencerPeak a _)))
  · exact .refl s

theorem leads_takeValley (a : AxisId) (s : State) : Leads ok s (takeValley a s) := by
  unfold takeValley
  split
  · next ha =>
    have opened : Leads ok s (s.modAxis a fun x => { x.account with carrierCount := 0, rising := true }) :=
      .moveAlone (.account ha) (.stays rfl rfl) (Retires.refl _)
    have decided := opened.trans (leads_takingOwn (leads_sequencerValley a _))
    dsimp only
    split
    · next hl => exact decided.trans (.moveAlone (.load hl) (.stays rfl rfl) (Retires.refl _))
    · exact decided
  · exact .refl s

theorem leads_valleyEvent (a : AxisId) (s : State) : Leads ok s (valleyEvent a s) := by
  unfold valleyEvent
  split
  · split
    · exact (leads_finishGroup a s).trans (leads_takeValley a _)
    · exact leads_takeValley a s
  · exact .refl s

theorem leads_releaseEvent (a : AxisId) (s : State) : Leads ok s (releaseEvent a s) := by
  unfold releaseEvent
  split
  · exact leads_takingOwn (leads_takeRelease a _)
  · exact .refl s

theorem leads_carrierCross (a : AxisId) (l : Leg) (s : State) : Leads ok s (carrierCross a l s) := by
  have crossed : ∀ c, (s.axis a).state.isActive = true →
      Leads ok s (s.setAxis a { s.axis a with carrierCount := c }) :=
    fun c active => .alike (.of_governed rfl rfl (.inl active))
  unfold carrierCross
  dsimp only
  split_ifs with h1 h2 h2
  · exact crossed _ (by simp only [Bool.and_eq_true] at h2; exact h2.1.2)
  · exact .refl s
  · exact crossed _ (by simp only [Bool.and_eq_true] at h2; exact h2.1.2)
  · exact .refl s

/-! ### The inputs (R102 to R105) -/

theorem leads_setPin (a : AxisId) (level : Bool) (s : State) :
    Leads ok s (s.modAxis a ({ · with pinActive := level })) :=
  .alike (.of_governed rfl rfl (.inr rfl))

theorem leads_pinBecomesActive (a : AxisId) (s : State) : Leads ok s (pinBecomesActive a s) := by
  unfold pinBecomesActive
  split
  · exact .refl s
  · exact (leads_setPin a true s).trans (leads_takeReport _ _)

/-- The level of the emergency input may change. -/
theorem leads_setEmergency (level : Bool) (s : State) : Leads ok s { s with emergency := level } :=
  .quiet (.of_governed rfl rfl rfl)

theorem leads_emergencyBecomesActive (s : State) : Leads ok s (emergencyBecomesActive s) := by
  unfold emergencyBecomesActive
  split
  · exact .refl s
  · dsimp only
    split
    · exact (leads_setEmergency true s).trans (.quiet (Retires.report _ _ _))
    · exact leads_setEmergency true s

theorem leads_emergencyBecomesInactive (s : State) : Leads ok s (emergencyBecomesInactive s) :=
  (leads_takeInFlight _ s).trans (leads_setEmergency false _)

end Sys2Proof.Machine
end

section
/-! The events of the converter, of the completion unit and of the admin unit as chains of small changes (chapters
7, 9 and 10). -/

namespace Sys2Proof.Machine

variable {ok : Prop}

/-! ### The converter (R117 to R127) -/

theorem leads_legUEnds (s : State) : Leads ok s (legUEnds s) := by
  unfold legUEnds
  split
  · exact .of_micro .endsLegU
  · exact .refl s

theorem leads_busRequest (s : State) : Leads ok s (busRequest s) := by
  unfold busRequest
  split
  · exact .refl s
  · next ho => exact .of_micro (.joinsQueue (by simpa using ho))

/-- The bus interval timer and the bus runs may change. -/
theorem leads_setMeas (s : State) (ovRun uvRun : Nat) (busTimer : Option Nat) (ovFlag uvFlag : Bool) :
    Leads ok s { s with
      meas := { s.meas with ovRun := ovRun, uvRun := uvRun, busTimer := busTimer }
      ovFlag := ovFlag, uvFlag := uvFlag } :=
  .quiet (.of_governed rfl rfl rfl)

theorem leads_busTimerExpires (s : State) : Leads ok s (busTimerExpires s) := by
  unfold busTimerExpires
  split
  · exact (leads_busRequest s).trans (leads_setMeas (busRequest s) _ _ _ _ _)
  · exact .refl s

theorem leads_processAxisResult (a : AxisId) (magU magV : Nat) (s : State) :
    Leads ok s (processAxisResult a magU magV s) := by
  have folded : Leads ok s (s.setAxis a ((s.axis a).axisResult magU magV)) :=
    .alike (.of_governed rfl Option.isSome_map (.inr rfl))
  unfold processAxisResult
  dsimp only
  split
  · exact folded.trans (leads_takeReport _ _)
  · exact folded

theorem leads_takeAxisResult (codeU codeV : BitVec 12) (s : State) :
    Leads ok s (takeAxisResult codeU codeV s) := by
  have dropped : Leads ok s { s with meas := s.meas.dropHead } := .of_micro .dropsHead
  unfold takeAxisResult
  split
  · exact .refl s
  · split
    · split
      · dsimp only
        split
        · exact dropped
        · exact dropped.trans (leads_processAxisResult _ _ _ _)
      · exact .refl s
    · exact .refl s

theorem leads_foldBusCode (code : Nat) (s : State) : Leads ok s (foldBusCode code s) := by
  unfold foldBusCode
  generalize axisIds = l
  induction l generalizing s with
  | nil => exact .refl s
  | cons a l ih =>
    refine Leads.trans (.alike ?_) (ih _)
    exact .of_governed rfl Option.isSome_map (.inr rfl)

theorem leads_processBusResult (code : Nat) (s : State) : Leads ok s (processBusResult code s) := by
  have reports : ∀ (p : Bool) (c : TripCause) (u : State), Leads ok u (if p then report c axisIds u else u) := by
    intro p c u
    split
    · exact .quiet (Retires.report _ _ _)
    · exact .refl u
  unfold processBusResult
  exact (leads_foldBusCode code s).trans ((leads_setMeas _ _ _ _ _ _).trans
    ((reports _ _ _).trans (reports _ _ _)))

theorem leads_takeBusResult (code : BitVec 12) (s : State) : Leads ok s (takeBusResult code s) := by
  unfold takeBusResult
  split
  · exact .refl s
  · split
    · split
      · exact (Leads.of_micro .dropsHead).trans (leads_processBusResult _ _)
      · exact .refl s
    · exact .refl s

/-! ### The completion unit (R159 to R165) -/

theorem retires_signalCompletions (s : State) : Retires 0 s (signalCompletions s) := .of_governed rfl rfl rfl

/-- The coalescing counter and timer may change. -/
theorem retires_setCoalescing (s : State) (count : Nat) (timer : Option Nat) :
    Retires 0 s { s with comp := { s.comp with coalescingCount := count, coalescingTimer := timer } } :=
  .of_governed rfl rfl rfl

theorem retires_coalesce (status : Status) (s : State) : Retires 0 s (coalesce status s) := by
  unfold coalesce
  split
  · dsimp only
    split
    · exact (retires_setCoalescing s _ _).trans (retires_signalCompletions _)
    · exact retires_setCoalescing s _ _
  · exact retires_signalCompletions s

theorem leads_coalescingExpires (s : State) : Leads ok s (coalescingExpires s) := by
  unfold coalescingExpires
  split
  · exact .quiet (retires_signalCompletions s)
  · exact .refl s

/-- The write channel may change. -/
theorem leads_setWriteTxn (s : State) (txn : Option WriteTxn) : Leads ok s { s with writeTxn := txn } :=
  .quiet (.of_governed rfl rfl rfl)

theorem leads_postHead (s : State) : Leads ok s (postHead s) := by
  unfold postHead
  split
  · exact .refl s
  · next c rest hq => exact .of_micro (.posts hq (retires_coalesce _ _))

theorem leads_completionOk (s : State) : Leads ok s (completionOk s) := by
  unfold completionOk
  split
  · dsimp only
    split
    · exact leads_setWriteTxn s none
    · exact (leads_setWriteTxn s none).trans (leads_postHead _)
  · exact .refl s

theorem leads_abandonSnapshot (s : State) : Leads ok s (abandonSnapshot s) := by
  unfold abandonSnapshot
  split
  · next hw => exact .of_micro (.answers (by rw [hw]; rfl) (Retires.releaseReservations s 1))
  · exact .refl s

theorem leads_enterFailed {s : State} (hp : s.part ≠ .resetting) : Leads ok s (enterFailed s) := by
  have discarded : Leads ok s (abandonSnapshot (discardPending { s with part := .failed })) :=
    (Leads.of_micro (.becomes hp)).trans ((Leads.of_micro .discards).trans (leads_abandonSnapshot _))
  exact discarded.trans ((leads_setMeas _ _ _ none _ _).trans
    ((Leads.quiet (Retires.raise _ .failed)).trans (.quiet (Retires.report _ _ _))))

theorem leads_completionFails (kind : FaultKind) (s : State) : Leads ok s (completionFails kind s) := by
  unfold completionFails
  split
  · dsimp only
    split
    · exact leads_setWriteTxn s none
    · next hp =>
      have recorded := (leads_setWriteTxn (ok := ok) s none).trans
        (.quiet (Retires.recordFault _ (.transaction .completion kind)))
      refine recorded.trans (leads_enterFailed ?_)
      rw [recordFault_eq]
      exact hp
  · exact .refl s

theorem leads_recordFault (b : FaultBit) (s : State) : Leads ok s (recordFault b s) :=
  .quiet (Retires.recordFault s b)

theorem leads_writeCcons (value : Word) (s : State) : Leads ok s (writeCcons value s) := by
  unfold writeCcons
  dsimp only
  split_ifs with h1 h2 h3
  · exact .refl s
  · exact leads_recordFault _ s
  · exact leads_recordFault _ s
  · exact .of_micro (.consumes (by omega) (by omega))

/-! ### The commands of the admin unit (R173 to R187) -/

/-- A command is held and in execution (R172). -/
structure Executes (s : State) : Prop where
  state : s.admin.state = .executing
  current : s.admin.current.isSome = true

/-- A command ends, having changed one axis (R173, R174). -/
theorem leads_finishAxis {s u : State} {a : AxisId} {x' : Axis} (he : Executes s) (tag : Half) (status : Status)
    (detail : Detail) (result : AdminResult) (ho : (s.axis a).Ordered x')
    (ha : x'.arrival = (s.axis a).arrival) (hs : x'.releaseSent = (s.axis a).releaseSent)
    (hr : Retires 0 (s.setAxis a x') u) : Leads ok s (finishCommand tag status detail result u) :=
  .of_micro (.executes (n := 0) he.state he.current (.inl ⟨ho, rfl⟩) (.stays ha hs)
    (hr.trans (Retires.handOff u [adminCompletion tag status detail result])))

/-- A command ends and no axis has changed (R173, R174). -/
theorem leads_finishCommand {s u : State} (he : Executes s) (tag : Half) (status : Status) (detail : Detail)
    (result : AdminResult) (hr : Retires 0 s u) : Leads ok s (finishCommand tag status detail result u) :=
  leads_finishAxis (a := 0) he tag status detail result .same rfl rfl (by rw [setAxis_axis]; exact hr)

theorem leads_badParameter {s : State} (he : Executes s) (tag : Half) : Leads ok s (badParameter tag s) :=
  leads_finishCommand he _ _ _ _ (Retires.refl s)

theorem leads_refuse {s : State} (he : Executes s) (tag : Half) (reason : Detail) :
    Leads ok s (refuse tag reason s) := leads_finishCommand he _ _ _ _ (Retires.refl s)

theorem four_le_of_ringSizeOk {n : Nat} (h : ringSizeOk n = true) : 4 ≤ n := by
  rw [ringSizeOk_iff] at h
  simp only [List.mem_cons, List.not_mem_nil, or_false] at h
  omega

theorem leads_runSetCompletionRing {s : State} (he : Executes s) (hz : s.comp.ringSize ≠ 0)
    (hp : s.part ≠ .failed) (tag : Half) (base : Word) (size : Half) :
    Leads ok s (runSetCompletionRing tag base size s) := by
  unfold runSetCompletionRing
  split
  · exact leads_badParameter he tag
  · next hargs =>
    have large : 4 ≤ size.toNat := by
      refine four_le_of_ringSizeOk ?_
      revert hargs
      cases ringSizeOk size.toNat <;> simp
    split
    · exact leads_refuse he tag _
    · next hfree =>
      rw [finishCommand_of_ring (s := { s with comp := s.comp.moveTo base size.toNat }) _ _ _ _ (show size.toNat ≠ 0 by omega) hp]
      exact .of_micro (.ringMoves he.current hz (by simpa using hfree) large)

theorem leads_runSetGlobal {s : State} (he : Executes s) (tag : Half) (rt wt k f : Byte) (w ov uv : Half) :
    Leads ok s (runSetGlobal tag rt wt k f w ov uv s) := by
  unfold runSetGlobal
  split
  · exact leads_badParameter he tag
  · exact leads_finishCommand he _ _ _ _ (.of_governed rfl rfl rfl)

theorem leads_runSetAxisRing {s : State} (he : Executes s) (tag : Half) (axis : Byte) (base : Word) (size : Half) :
    Leads ok s (runSetAxisRing tag axis base size s) := by
  unfold runSetAxisRing
  split
  · exact leads_badParameter he tag
  · split
    · exact leads_badParameter he tag
    · next hargs =>
      split
      · exact leads_refuse he tag _
      · refine leads_finishAxis he _ _ _ _ (.setRing ?_) rfl rfl (Retires.refl _)
        refine Nat.lt_of_lt_of_le (by decide) (four_le_of_ringSizeOk ?_)
        revert hargs
        cases ringSizeOk size.toNat <;> simp

/-- A configuration that is taken has a legal half-period and a positive R (R62, R181). -/
theorem legal_of_configOf {d m r : Byte} {h tBoot np g limit : Half} {n pattern : Byte} {cfg : AxisConfig}
    (hc : configOf d m r h tBoot np g limit n pattern = some cfg) : LegalPeriod cfg cfg.h ∧ 0 < cfg.r := by
  unfold configOf at hc
  split at hc
  · next hv =>
    simp only [Bool.and_eq_true] at hv
    obtain rfl := Option.some.inj hc
    refine ⟨(periodLegal_iff _ _).mp hv.1.1.1.1.1.1.1.1, ?_⟩
    have : r ≠ 0 := by simpa using hv.1.1.1.1.1.1.2
    exact Nat.pos_of_ne_zero fun e => this (BitVec.eq_of_toNat_eq e)
  · cases hc

theorem leads_runConfigureAxis {s : State} (he : Executes s) (tag : Half) (axis d m r : Byte)
    (h tBoot np g limit : Half) (n pattern : Byte) :
    Leads ok s (runConfigureAxis tag axis d m r h tBoot np g limit n pattern s) := by
  unfold runConfigureAxis
  split
  · next hc =>
    split
    · next hs =>
      obtain ⟨legal, positive⟩ := legal_of_configOf hc
      exact leads_finishAxis he _ _ _ _ (.configure hs legal positive) rfl rfl (Retires.refl _)
    · exact leads_refuse he tag _
  · exact leads_badParameter he tag

theorem leads_runStartAxis {s : State} (he : Executes s) (tag : Half) (axis : Byte) :
    Leads ok s (runStartAxis tag axis s) := by
  unfold runStartAxis
  split
  · exact leads_badParameter he tag
  · next a _ =>
    split
    · exact leads_refuse he tag _
    · next hn =>
      have idle : (s.axis a).state = .idle := by
        by_contra hs
        simp [startRefusal, hs] at hn
      exact leads_finishAxis he _ _ _ _ (.start idle) rfl rfl
        (Retires.bookkeeping (s.setAxis a (s.axis a).start) _ s.freeCount)

theorem length_abortedSegment (a : AxisId) (x : Axis) :
    (abortedSegment a x).length = x.active.toList.length := by
  simp [abortedSegment]

/-- An IMMEDIATE stop of an active axis (R39, R40). -/
theorem leads_immediateStop {s : State} {a : AxisId} (he : Executes s) (tag : Half)
    (ha : (s.axis a).state.isActive = true) : Leads ok s (endExecution (immediateStop a tag s)) := by
  have hd : (depart a s).axis a = s.axis a := by rw [depart_eq_groups]; rfl
  refine .of_micro (.executes he.state he.current (.inr (.stopNow ha)) (.departs rfl rfl) ?_)
  unfold immediateStop
  dsimp only
  rw [hd]
  have := retires_departure (s := s) (a := a) (((s.axis a).stopped .idle).skipped) (abortedSegment a (s.axis a) ++
    flushedRecords a (s.axis a) ++
      ((s.axis a).pendingStop.toList.map fun t => adminCompletion t .ok .preempted (.stopAxis 0)) ++
      [adminCompletion tag .ok .none (.stopAxis (s.axis a).occupancy)])
    (by rw [setAxis_axis]; exact Retires.refl s) rfl rfl
  rw [List.length_append, List.length_append, List.length_append, length_abortedSegment, length_flushedRecords,
    List.length_map, List.length_singleton, Nat.zero_add, ← Nat.add_assoc] at this
  exact this

theorem leads_answerStop {s : State} (he : Executes s) (tag : Half) (a : AxisId) (immediate : Bool) :
    Leads ok s (answerStop tag a immediate s) := by
  have active : (s.axis a).state.isActive = true → Leads ok s
      (if immediate then endExecution (immediateStop a tag s)
        else if (s.axis a).pendingStop.isSome then refuse tag .stopPending s
        else endExecution (s.setAxis a { s.axis a with pendingStop := some tag })) := by
    intro ha
    split_ifs with h1 h2
    · exact leads_immediateStop he tag ha
    · exact leads_refuse he tag _
    · exact .of_micro (.pends he.current ha (by simpa using h2))
  unfold answerStop
  dsimp only
  split
  case h_1 => exact leads_finishCommand he _ _ _ _ (Retires.refl s)
  case h_2 => exact leads_refuse he tag _
  all_goals
    next hs => exact active (by rw [hs]; rfl)

theorem leads_runStopAxis {s : State} (he : Executes s) (tag : Half) (axis mode : Byte) :
    Leads ok s (runStopAxis tag axis mode s) := by
  unfold runStopAxis
  split
  · exact leads_badParameter he tag
  · next a _ =>
    split
    · exact leads_badParameter he tag
    · dsimp only
      split
      · have admin := (AxisSide.finishGroup s a).admin
        exact (leads_finishGroup a s).trans
          (leads_answerStop ⟨by rw [admin]; exact he.state, by rw [admin]; exact he.current⟩ tag a _)
      · exact leads_answerStop he tag a _

theorem leads_runClearFault {s : State} (he : Executes s) (tag : Half) (axis disposition : Byte) :
    Leads ok s (runClearFault tag axis disposition s) := by
  unfold runClearFault
  split
  · exact leads_badParameter he tag
  · next a _ =>
    split
    · exact leads_badParameter he tag
    · split
      · exact leads_refuse he tag _
      · next hn =>
        have tripped : (s.axis a).state = .tripped := by
          by_contra hs
          simp [clearRefusal, hs] at hn
        have ordered : (s.axis a).Ordered
            (if disposition == 1 then (s.axis a).clear.skipped else (s.axis a).clear) := by
          split
          · exact .clearSkipped tripped
          · exact .clear tripped
        exact leads_finishAxis he _ _ _ _ ordered (by split <;> rfl) (by split <;> rfl) (Retires.refl _)

theorem leads_runDefineGroup {s : State} (he : Executes s) (tag : Half) (group members : Byte) (timeout : Half) :
    Leads ok s (runDefineGroup tag group members timeout s) := by
  unfold runDefineGroup
  split
  · exact leads_badParameter he tag
  · next g _ =>
    split
    · exact leads_badParameter he tag
    · dsimp only
      split
      · exact leads_finishCommand he _ _ _ _ (Retires.refl s)
      · have cleared : Leads ok s (s.setGroup g
            ((s.group g).define (members.extractLsb' 0 4) timeout.toNat)) := .of_micro (.clears rfl)
        have executes : Executes (s.setGroup g
            ((s.group g).define (members.extractLsb' 0 4) timeout.toNat)) := ⟨he.state, he.current⟩
        exact cleared.trans (leads_finishCommand executes _ _ _ _ (Retires.refl _))

theorem leads_runReadAxis {s : State} (he : Executes s) (tag : Half) (axis : Byte) (address : Word) :
    Leads ok s (runReadAxis tag axis address s) := by
  unfold runReadAxis
  split
  · exact leads_badParameter he tag
  · split
    · exact leads_badParameter he tag
    · exact .of_micro (.forms he.current)

/-- A command checked and executed, but for SET_COMPLETION_RING with no ring configured (R173, R176). -/
theorem leads_runCommand {s : State} (he : Executes s) (c : AdminCommand)
    (hring : c.movesRing = true → s.comp.ringSize ≠ 0 ∧ s.part ≠ .failed) : Leads ok s (runCommand c s) := by
  unfold runCommand
  cases hb : c.body with
  | setCompletionRing base size =>
    obtain ⟨hz, hp⟩ := hring (by simp [AdminCommand.movesRing, hb])
    exact leads_runSetCompletionRing he hz hp _ _ _
  | setGlobal => exact leads_runSetGlobal he _ _ _ _ _ _ _ _
  | setAxisRing => exact leads_runSetAxisRing he _ _ _ _
  | configureAxis => exact leads_runConfigureAxis he _ _ _ _ _ _ _ _ _ _ _ _
  | startAxis => exact leads_runStartAxis he _ _
  | stopAxis => exact leads_runStopAxis he _ _ _
  | clearFault => exact leads_runClearFault he _ _ _
  | defineGroup => exact leads_runDefineGroup he _ _ _ _
  | readAxis => exact leads_runReadAxis he _ _ _
  | unknown => exact leads_finishCommand he _ _ _ _ (Retires.refl s)

theorem leads_resumeCommand (a : AxisId) (s : State) : Leads ok s (resumeCommand a s) := by
  unfold resumeCommand
  split
  · next c hs hc =>
    split
    · next hr =>
      refine leads_runCommand ⟨hs, by rw [hc]; rfl⟩ c fun hm => ?_
      unfold AdminCommand.movesRing at hm
      unfold AdminCommand.ringAxis at hr
      revert hm hr
      cases c.body <;> simp
    · exact .refl s
  · exact .refl s

theorem leads_beginCommand {s : State} (he : Executes s) (c : AdminCommand)
    (hring : c.movesRing = true → s.comp.ringSize ≠ 0 ∧ s.part ≠ .failed) : Leads ok s (beginCommand c s) := by
  unfold beginCommand
  split
  · exact .refl s
  · exact leads_runCommand he c hring

/-! ### The snapshot write's response (R188) -/

theorem leads_answer {s u : State} (hw : s.admin.snapshot.isSome = true) (tag : Half) (status : Status)
    (detail : Detail) (result : AdminResult) (hr : Retires 0 s u) :
    Leads ok s (finishCommand tag status detail result u) :=
  .of_micro (.answers hw (hr.trans (Retires.handOff u [adminCompletion tag status detail result])))

theorem leads_snapshotOk (s : State) : Leads ok s (snapshotOk s) := by
  unfold snapshotOk
  split
  · next hw =>
    dsimp only
    split
    · exact leads_setWriteTxn s none
    · exact (leads_setWriteTxn s none).trans
        (leads_answer (s := { s with writeTxn := none }) (Option.isSome_iff_exists.mpr ⟨_, hw⟩) _ _ _ _ (Retires.refl _))
  · exact leads_setWriteTxn s none
  · exact .refl s

theorem leads_snapshotFails (kind : FaultKind) (s : State) : Leads ok s (snapshotFails kind s) := by
  unfold snapshotFails
  split
  · next hw =>
    dsimp only
    split
    · exact leads_setWriteTxn s none
    · exact (leads_setWriteTxn s none).trans
        (leads_answer (s := { s with writeTxn := none }) (Option.isSome_iff_exists.mpr ⟨_, hw⟩) _ _ _ _ (Retires.recordFault _ _))
  · exact leads_setWriteTxn s none
  · exact .refl s

end Sys2Proof.Machine
end

section
/-! The events of the queue engine, of the control block and of time as chains of small changes, and every step of
the machine with them (chapters 8, 10 and 11). -/

namespace Sys2Proof.Machine

variable {ok : Prop}

/-- `t` comes of `s` by a row's own first change and then by small changes, where `ok` claims of `s` that every
axis holds what its state lets it hold. -/
def Starts (ok : Prop) (s t : State) : Prop := ∃ u, Begins s u ∧ Leads ok u t

namespace Starts

theorem of_leads {s t : State} (h : Leads ok s t) : Starts ok s t := ⟨s, .same, h⟩

theorem of_begins {s t : State} (h : Begins s t) : Starts ok s t := ⟨t, h, .refl t⟩

theorem trans {s t u : State} (h : Starts ok s t) (k : Leads ok t u) : Starts ok s u := by
  obtain ⟨v, begins, leads⟩ := h
  exact ⟨v, begins, leads.trans k⟩

theorem path {s t : State} (h : Starts ok s t) (hs : ok → AxesHoldByState s) :
    ∃ u, Begins s u ∧ Path ok u t := by
  obtain ⟨u, begins, leads⟩ := h
  exact ⟨u, begins, leads fun hok => begins.forall_axis (P := Axis.HoldsByState) (hs hok)⟩

end Starts

/-! ### The return of an administrative read (R172, R176) -/

theorem accepted_index (u : AdminUnit) :
    (if u.occupancy = 0 then u.consumer else nextIndex u.ringSize u.consumer) = u.consumer ∨
    (if u.occupancy = 0 then u.consumer else nextIndex u.ringSize u.consumer) =
      nextIndex u.ringSize u.consumer := by
  split
  · exact .inl rfl
  · exact .inr rfl

/-- The machine with a command accepted (R172). -/
def accepted (s : State) (txn : Option ReadTxn) (c : AdminCommand) (i : Nat) : State :=
  { s with readTxn := txn, admin := { s.admin with state := .executing, current := some c, consumer := i } }

/-- SET_COMPLETION_RING with no completion ring (R176, R178). -/
theorem begins_runSetCompletionRing {s : State} {c : AdminCommand} {txn : Option ReadTxn} {i : Nat}
    (hz : s.comp.ringSize = 0) (hp : s.part = .running)
    (htxn : txn = s.readTxn ∧ s.admin.state = .waiting ∨ txn = none ∧ ∃ r, s.readTxn = some r ∧ r.ring = .admin)
    (hi : i = s.admin.consumer ∨ i = nextIndex s.admin.ringSize s.admin.consumer) (tag : Half) (base : Word)
    (size : Half) : Begins s (runSetCompletionRing tag base size (accepted s txn c i)) := by
  have discarded : ∀ status detail, Begins s (finishCommand tag status detail .zero (accepted s txn c i)) := by
    intro status detail
    unfold finishCommand handOff
    rw [if_pos (by exact hz)]
    exact .ringless hz htxn hi
  unfold runSetCompletionRing
  split
  · exact discarded _ _
  · next hargs =>
    have large : 4 ≤ size.toNat := by
      refine four_le_of_ringSizeOk ?_
      revert hargs
      cases ringSizeOk size.toNat <;> simp
    split
    · exact discarded _ _
    · next hfree =>
      have held := completionRingFree_reservations (s := accepted s txn c i) (by simpa using hfree)
      have done := finishCommand_of_ring
        (s := { accepted s txn c i with comp := (accepted s txn c i).comp.moveTo base size.toNat })
        tag .ok .none .zero (show size.toNat ≠ 0 by omega) (by show s.part ≠ _; rw [hp]; decide)
      refine done.symm ▸ ?_
      exact .ringSetUp hz htxn hi large (by simpa [accepted, hz] using held)

/-- With no completion ring a SET_COMPLETION_RING is executed with its acceptance (R176, R178). -/
theorem begins_ringless {s : State} {c : AdminCommand} {txn : Option ReadTxn} (hz : s.comp.ringSize = 0)
    (hp : s.part = .running) (hm : c.movesRing = true)
    (htxn : txn = s.readTxn ∧ s.admin.state = .waiting ∨
      txn = none ∧ ∃ r, s.readTxn = some r ∧ r.ring = .admin) :
    Begins s (acceptCommand c { s with readTxn := txn }) := by
  obtain ⟨base, size, hb⟩ : ∃ base size, c.body = .setCompletionRing base size := by
    unfold AdminCommand.movesRing at hm
    split at hm
    · next hb => exact ⟨_, _, hb⟩
    · cases hm
  have runs := begins_runSetCompletionRing (c := c) hz hp htxn (accepted_index s.admin) c.tag base size
  unfold acceptCommand beginCommand
  dsimp only
  rw [if_neg (by simp [mustWait, AdminCommand.ringAxis, hb]), runCommand, hb]
  exact runs

/-- The OK return of the administrative read outstanding (R172, R176). -/
theorem starts_returned {s : State} {r : ReadTxn} (c : AdminCommand) (hr : s.readTxn = some r)
    (hring : r.ring = .admin) : Starts ok s (returnedCommand c r.reserved { s with readTxn := none }) := by
  unfold returnedCommand
  split
  · refine .of_leads (.of_micro (.adminReadEnds (state := .waiting) (reason := s.admin.haltReason) hr hring
      (by decide) (by decide) (.inl rfl) ?_))
    cases r.reserved
    · exact Retires.refl _
    · exact Retires.releaseReservations _ 1
  · next hp =>
    have running : s.part = .running := by simpa using hp
    split
    · next hz =>
      exact .of_leads (.of_micro (.adminReadEnds (state := .halted) (reason := .noCompletionRing) (n := 0) hr hring
        (by decide) (by decide) (.inr ⟨rfl, hz.1⟩) (Retires.raise _ _)))
    · next hz =>
      by_cases ring : s.comp.ringSize = 0
      · have moves : c.movesRing = true := by
          by_contra hn
          exact hz ⟨ring, hn⟩
        exact .of_begins (begins_ringless ring running moves (.inr ⟨rfl, r, hr, hring⟩))
      · refine ⟨_, .accepts (c := c) hr hring ring (accepted_index s.admin), leads_beginCommand ⟨rfl, rfl⟩ c ?_⟩
        exact fun _ => ⟨ring, by show s.part ≠ _; rw [running]; decide⟩

/-- A row that is an administrative command (R172, R176). -/
theorem starts_takeCommand (c : AdminCommand) (s : State) : Starts ok s (takeCommand c s) := by
  have unchanged : Starts ok s s := .of_leads (.refl s)
  unfold takeCommand
  split
  · exact unchanged
  · split
    · split
      · next r hr =>
        split
        · next hring => exact starts_returned c hr hring
        · exact unchanged
      · exact unchanged
    · next hw =>
      split
      · next hp =>
        split
        · next hz =>
          unfold returnedCommand
          rw [if_neg (by rw [hp]; simp)]
          split
          · exact .of_leads (.of_micro (.rests (by rw [hw]; decide) (by rw [hw]; decide) (by decide) (by decide)
              (Retires.raise _ _)))
          · next hm =>
            have moves : c.movesRing = true := by
              by_contra hn
              exact hm ⟨hz, hn⟩
            exact .of_begins (begins_ringless (txn := s.readTxn) hz hp moves (.inl ⟨rfl, hw⟩))
        · next hz =>
          split
          · next hg =>
            unfold returnedCommand
            rw [if_neg (by simp [hp]), if_neg (fun h => hz h.1)]
            refine ⟨_, .acceptsAtOnce (c := c) hw hg (accepted_index s.admin), leads_beginCommand ⟨rfl, rfl⟩ c ?_⟩
            exact fun _ => ⟨hz, by show s.part ≠ _; rw [hp]; decide⟩
          · exact unchanged
      · exact unchanged
    · exact unchanged
    · exact unchanged

theorem starts_adminReadOk (record : List Byte) (s : State) : Starts ok s (adminReadOk record s) := by
  unfold adminReadOk
  split
  · next r hr =>
    split
    · next hring =>
      dsimp only
      split
      · next hp => exact .of_leads (.of_micro (.discardsRead hp))
      · exact starts_returned _ hr hring
    · exact .of_leads (.refl s)
  · exact .of_leads (.refl s)

/-! ### The other returns of reads (R144 to R147, R199) -/

theorem retires_releaseRead (r : ReadTxn) (s : State) : Retires r.reserved.toNat s (releaseRead r s) := by
  unfold releaseRead
  cases r.reserved
  · exact Retires.refl s
  · exact Retires.releaseReservations s 1

theorem leads_axisReadOk (record : List Byte) (s : State) : Leads ok s (axisReadOk record s) := by
  unfold axisReadOk
  split
  · next r hr =>
    split
    · next a hring =>
      dsimp only
      split
      · next hp => exact .of_micro (.discardsRead hp)
      · refine Leads.trans ?_ (leads_resumeCommand a _)
        unfold placeRecord
        split
        · next h =>
          simp only [Bool.and_eq_true] at h
          exact .of_micro (.places hr hring h.1)
        · exact .of_micro (.readEnds hr hring (retires_releaseRead r _))
    · exact .refl s
  · exact .refl s

/-- A read that failed: its fault is recorded and its reservation released (R145, R146). -/
theorem retires_failedRead (r : ReadTxn) (b : FaultBit) (s : State) :
    Retires r.reserved.toNat s (releaseRead r (recordFault b s)) := by
  have := (Retires.recordFault s b).trans (retires_releaseRead r _)
  rwa [Nat.zero_add] at this

theorem leads_axisReadFails (kind : FaultKind) (s : State) : Leads ok s (axisReadFails kind s) := by
  unfold axisReadFails
  split
  · next r hr =>
    split
    · next a hring =>
      dsimp only
      split
      · next hp => exact .of_micro (.discardsRead hp)
      · have ended : Leads ok s (releaseRead r (recordFault (.transaction (.axis a) kind)
            { s with readTxn := none })) := .of_micro (.readEnds hr hring (retires_failedRead r _ _))
        exact (ended.trans (leads_takeReport _ _)).trans (leads_resumeCommand a _)
    · exact .refl s
  · exact .refl s

theorem leads_adminReadFails (kind : FaultKind) (s : State) : Leads ok s (adminReadFails kind s) := by
  unfold adminReadFails
  split
  · next r hr =>
    split
    · next hring =>
      dsimp only
      split
      · next hp => exact .of_micro (.discardsRead hp)
      · refine .of_micro (.adminReadEnds (state := .halted) (reason := .fetchFault) hr hring (by decide) (by decide)
          (.inl rfl) ?_)
        have failed := (retires_failedRead r (.transaction .admin kind) { s with readTxn := none }).setHalt
          .halted .fetchFault
        exact failed.trans (m := 0) (Retires.raise _ _)
    · exact .refl s
  · exact .refl s

theorem leads_portTimesOut (channel : Channel) (s : State) : Leads ok s (portTimesOut channel s) := by
  unfold portTimesOut
  split
  · split
    · split
      · exact .refl s
      · split
        · exact leads_axisReadFails _ s
        · exact leads_adminReadFails _ s
    · exact .refl s
  · split
    · split
      · exact .refl s
      · split
        · exact leads_completionFails _ s
        · exact leads_snapshotFails _ s
    · exact .refl s

/-! ### The registers (R135, R166, R189 to R198) -/

theorem leads_writeProducer (ring : RingId) (value : Word) (s : State) :
    Leads ok s (writeProducer ring value s) := by
  unfold writeProducer
  cases ring <;> dsimp only [ringIndices, setProducer]
  all_goals
    split_ifs with h1 h2 h3
    · exact .refl s
    · exact leads_recordFault _ s
    · exact leads_recordFault _ s
  · exact .moveAlone (.producer (v := value.toNat) (by omega)) (.stays rfl rfl) (Retires.refl _)
  · exact .of_micro (.adminProduces (by omega))

/-- The interrupt registers and the fault summary may change. -/
theorem leads_setFlags (s : State) (icause imask : BitVec 6) (fsum : BitVec 16) (busRead : Word) :
    Leads ok s { s with icause := icause, imask := imask, fsum := fsum, busRead := busRead } :=
  .quiet (.of_governed rfl rfl rfl)

theorem leads_writeIcause (value : Word) (s : State) : Leads ok s (writeIcause value s) := by
  unfold writeIcause
  split
  · exact leads_setFlags s _ s.imask s.fsum s.busRead
  · exact .refl s

theorem leads_writeImask (value : Word) (s : State) : Leads ok s (writeImask value s) := by
  unfold writeImask
  split
  · exact leads_setFlags s s.icause _ s.fsum s.busRead
  · exact .refl s

theorem leads_ignoreWrite (s : State) : Leads ok s (ignoreWrite s) := by
  unfold ignoreWrite
  split
  · exact leads_recordFault _ s
  · exact .refl s

theorem leads_readFsum (lane : BitVec 2) (width : AccessWidth) (s : State) : Leads ok s (readFsum lane width s) :=
  leads_setFlags s s.icause s.imask 0 _

theorem leads_writeAdmring (value : Word) (s : State) : Leads ok s (writeAdmring value s) := by
  unfold writeAdmring
  split
  · exact .refl s
  · split
    · split
      · refine .of_micro (.adminRing ?_ (Retires.refl _))
        omega
      · exact leads_recordFault _ s
    · exact leads_recordFault _ s

/-! ### Part states and resets (R175, R193 to R197) -/

theorem leads_restartAdmin (s : State) : Leads ok s (restartAdmin s) := by
  unfold restartAdmin
  split
  · next h =>
    exact .of_micro (.rests (by rw [h]; decide) (by rw [h]; decide) (by decide) (by decide) (Retires.refl _))
  · exact .refl s

theorem retires_markStales (l : List AxisId) (s : State) :
    Retires 0 s (l.foldl (fun s a => markStale a s) s) := by
  induction l generalizing s with
  | nil => exact Retires.refl s
  | cons a l ih => exact (Retires.markStale s a).trans (ih _)

theorem admin_markStales (l : List AxisId) (s : State) :
    (l.foldl (fun s a => markStale a s) s).admin = s.admin := by
  induction l generalizing s with
  | nil => rfl
  | cons a l ih => exact ih _

theorem leads_enterResetting (s : State) : Leads ok s (enterResetting s) := by
  refine .of_micro (.resetting (snapshot := s.admin.snapshot.filter (·.issued)) ?_ ?_)
  · cases s.admin.snapshot <;> simp
  · have stale := retires_markStales (axisIds.filter s.activeAxis) s
    have admin := admin_markStales (axisIds.filter s.activeAxis) s
    unfold enterResetting
    dsimp only
    generalize (axisIds.filter s.activeAxis).foldl (fun s a => markStale a s) s = u at stale admin
    refine { stale with part := rfl, groups := fun g => ?_, snapshot := ?_, read := ?_ }
    · have := stale.groups g
      simpa [State.group] using this
    · show (u.admin.snapshot.filter _).isSome = _
      rw [admin]
    · have := stale.read
      show Option.map _ (Option.map _ u.readTxn) = _
      rw [Option.map_map]
      exact this

theorem leads_endResetting (s : State) : Leads ok s (endResetting s) := by
  unfold endResetting
  split
  · exact .of_micro .resets
  · exact .refl s

/-- RESETn and the timebase may change. -/
theorem leads_setReset (s : State) (resetLow : Bool) (timebase : Word) (subTick : Nat) :
    Leads ok s { s with resetLow := resetLow, timebase := timebase, subTick := subTick } :=
  .quiet (.of_governed rfl rfl rfl)

theorem leads_pinResetBegins (s : State) : Leads ok s (pinResetBegins s) :=
  (Leads.of_micro .resets).trans (leads_setReset _ true _ _)

theorem leads_resetReleases (s : State) : Leads ok s (resetReleases s) := by
  unfold resetReleases
  split
  · exact leads_setReset s false 0 0
  · exact .refl s

theorem leads_enablePart {s : State} (hp : s.part = .disabled) : Leads ok s (enablePart s) :=
  (Leads.of_micro (.becomes (p := .running) (by rw [hp]; decide))).trans
    (leads_setMeas _ _ _ (some Config.busInterval) _ _)

theorem leads_disablePart {s : State} (hp : s.part = .running) : Leads ok s (disablePart s) := by
  have quiescing : Leads ok s { s with part := .quiescing, reports := [] } :=
    (Leads.of_micro (.becomes (p := .quiescing) (by rw [hp]; decide))).trans
      (.quiet (Retires.bookkeeping _ [] s.freeCount))
  exact quiescing.trans ((Leads.quiet (Retires.report _ _ _)).trans ((leads_takeReports _).trans
    ((Leads.quiet (Retires.bookkeeping _ s.reports _)).trans (leads_setMeas _ _ _ none _ _))))

theorem leads_writeCtrl (enable softReset adminRestart : Bool) (s : State) :
    Leads ok s (writeCtrl enable softReset adminRestart s) := by
  have restarted : Leads ok s (if adminRestart then restartAdmin s else s) := by
    split
    · exact leads_restartAdmin s
    · exact .refl s
  have part : (if adminRestart then restartAdmin s else s).part = s.part := by
    unfold restartAdmin
    split
    · split <;> rfl
    · rfl
  unfold writeCtrl
  split
  · exact .refl s
  · split
    · exact leads_enterResetting s
    · dsimp only
      split
      · next h =>
        simp only [Bool.and_eq_true, beq_iff_eq] at h
        exact restarted.trans (leads_enablePart (part.trans h.2))
      · split
        · next h =>
          simp only [Bool.and_eq_true, beq_iff_eq] at h
          exact restarted.trans (leads_disablePart (part.trans h.2))
        · exact restarted

/-! ### The end of an event (R141, R158, R194, R196) -/

theorem leads_endQuiesce (s : State) : Leads ok s (endQuiesce s) := by
  unfold endQuiesce
  split
  · next h =>
    exact (Leads.of_micro (.becomes (by rw [h.1]; decide))).trans (.quiet (Retires.raise _ _))
  · exact .refl s

/-- The ring the arbiter chooses is eligible (R141). -/
theorem eligible_of_arbiterChoice {s : State} {ring : RingId} (h : arbiterChoice s = some ring) :
    match ring with
    | .axis a => s.axisEligible a = true
    | .admin => s.adminEligible = true := by
  have eligible : ∀ a ∈ (roundRobin s.arbiter).filter s.axisEligible, s.axisEligible a = true :=
    fun a ha => (List.mem_filter.mp ha).2
  unfold arbiterChoice at h
  dsimp only at h
  split at h
  · next a hf =>
    obtain rfl := Option.some.inj h
    exact eligible a (List.mem_of_find?_eq_some hf)
  · split at h
    · next a hf =>
      obtain rfl := Option.some.inj h
      exact eligible a (List.mem_of_find?_eq_some hf)
    · split at h
      · next he =>
        obtain rfl := Option.some.inj h
        exact he
      · obtain ⟨a, ha, rfl⟩ := Option.map_eq_some_iff.mp h
        exact eligible a (List.mem_of_mem_head? ha)

theorem leads_issueRead (s : State) : Leads ok s (issueRead s) := by
  rcases issueRead_cases s with ⟨he, _⟩ | ⟨ring, hn, hc, he⟩ <;> rw [he]
  · exact .refl s
  · have eligible := eligible_of_arbiterChoice hc
    cases ring with
    | axis a => exact .of_micro (.issuesAxis hn eligible)
    | admin => exact .of_micro (.issuesAdmin hn eligible)

theorem leads_issueWrite (s : State) : Leads ok s (issueWrite s) := by
  rw [issueWrite_eq]
  refine .quiet { Retires.refl s with snapshot := ?_ }
  show Option.isSome (if WriteFree s then _ else _) = _
  split
  · exact Option.isSome_map
  · rfl

theorem leads_settle (s : State) : Leads ok s (settle s) :=
  (leads_endQuiesce s).trans ((leads_endResetting _).trans ((leads_issueRead _).trans
    ((leads_issueWrite _).trans (.of_micro .refresh))))

/-! ### Time (R84, R200) -/

theorem leads_groupTimeout (g : GroupId) (s : State) : Leads ok s (groupTimeout g s) := by
  unfold groupTimeout
  dsimp only
  split
  · exact (Leads.of_micro (.clears rfl)).trans (.quiet (Retires.report _ _ _))
  · exact .refl s

theorem leads_expire (t : Timer) (s : State) : Leads ok s (expire t s) := by
  cases t with
  | group g => exact leads_groupTimeout g s
  | coalescing => exact leads_coalescingExpires s
  | bus => exact leads_busTimerExpires s
  | port channel => exact leads_portTimesOut channel s

theorem leads_advanceMicrosecond (s : State) : Leads ok s (advanceMicrosecond s) := by
  refine .quiet { Retires.refl s with groups := fun g => ?_, read := ?_ }
  · simp [advanceMicrosecond, State.group]
  · cases h : s.readTxn <;> simp [advanceMicrosecond, h]

theorem leads_timebaseEvent (s : State) : Leads ok s (timebaseEvent s) := by
  unfold timebaseEvent
  split
  · exact .refl s
  · exact (leads_advanceMicrosecond s).trans
      (.takeInOrder _ (fun t u => (leads_expire t u).trans (leads_settle _)) _ _ _)

theorem leads_resultEvent (s : State) : Leads ok s (resultEvent s) := by
  have counted : Leads ok s { s with freeCount := s.freeCount + 2 } :=
    .quiet (Retires.bookkeeping s s.reports _)
  unfold resultEvent
  dsimp only
  split
  · exact counted.trans (leads_takeAxisResult _ _ _)
  · exact counted.trans (leads_takeBusResult _ _)
  · exact .refl s

theorem leads_takeTickEvent (e : TickEvent) (s : State) : Leads ok s (takeTickEvent e s) := by
  cases e <;> unfold takeTickEvent <;> dsimp only
  case report r =>
    split
    · exact leads_takeAxisReport r s
    · exact .refl s
  case release a => exact leads_releaseEvent a s
  case carrier a =>
    split
    · exact leads_peakEvent a s
    · exact leads_valleyEvent a s
  case legU => exact leads_legUEnds s
  case result => exact leads_resultEvent s
  case timebase => exact leads_timebaseEvent s

theorem leads_advanceCarrier (s : State) (a : AxisId) : Leads ok s (advanceCarrier s a) := by
  unfold advanceCarrier
  split
  · next h =>
    have active : (s.axis a).state.isActive = true := by
      simp only [State.carrierRuns, Bool.and_eq_true] at h
      exact h.1.2
    exact .alike (.of_governed rfl rfl (.inl active))
  · exact .refl s

theorem leads_advanceCarriers (l : List AxisId) (s : State) : Leads ok s (l.foldl advanceCarrier s) := by
  induction l generalizing s with
  | nil => exact .refl s
  | cons a l ih => exact (leads_advanceCarrier s a).trans (ih _)

theorem leads_advanceConversion (s : State) : Leads ok s (advanceConversion s) := by
  unfold advanceConversion
  split
  · exact .quiet (.of_governed rfl rfl rfl)
  · exact .refl s

theorem leads_advanceSubTick (s : State) : Leads ok s (advanceSubTick s) := by
  unfold advanceSubTick
  split
  · exact .refl s
  · exact leads_setReset s s.resetLow s.timebase _

theorem starts_tick (s : State) : Starts ok s (tick s) := by
  unfold tick
  split
  · exact .of_leads (.refl s)
  · have counts : Starts ok s (advanceCounts s) := ⟨ageGates s, .ages,
      (leads_advanceConversion _).trans ((leads_advanceSubTick _).trans (leads_advanceCarriers _ _))⟩
    exact (counts.trans (leads_settle _)).trans
      (.takeInOrder _ (fun e u => (leads_takeTickEvent e u).trans (leads_settle _)) _ _ _)

/-! ### Every step (sections 0.7 and 12.2) -/

theorem starts_exec (i : Instr) (s : State) : ∃ t, exec i s = .next t ∧ Starts ok s t := by
  have settled : ∀ {u}, Starts ok s u → Starts ok s (settle u) := fun h => h.trans (leads_settle _)
  have command : ∀ c, Starts ok s (settle (takeCommand c s)) := fun c => settled (starts_takeCommand c s)
  have event : ∀ {u}, Leads ok s u → Starts ok s (settle u) := fun h => settled (.of_leads h)
  cases i <;> refine ⟨_, rfl, ?_⟩
  case setCompletionRing | setGlobal | setAxisRing | configureAxis | startAxis | stopAxis | clearFault
    | defineGroup | readAxis => exact command _
  case setEnable | clearEnable | softReset | adminRestart => exact event (leads_writeCtrl _ _ _ s)
  case admringWrite => exact event (leads_writeAdmring _ s)
  case producerIndexWrite => exact event (leads_writeProducer _ _ s)
  case cconsWrite => exact event (leads_writeCcons _ s)
  case icauseWrite => exact .of_leads (leads_writeIcause _ s)
  case imaskWrite => exact .of_leads (leads_writeImask _ s)
  case fsumRead => exact .of_leads (leads_readFsum _ _ s)
  case registerWriteIgnored => exact .of_leads (leads_ignoreWrite s)
  case tripPinActive => exact event (leads_pinBecomesActive _ s)
  case tripPinInactive a => exact .of_leads (leads_setPin a false s)
  case emergencyActive => exact event (leads_emergencyBecomesActive s)
  case emergencyInactive => exact event (leads_emergencyBecomesInactive s)
  case pinReset => exact event (leads_pinResetBegins s)
  case resetRelease => exact event (leads_resetReleases s)
  case carrierPeak => exact event (leads_peakEvent _ s)
  case carrierValley => exact event (leads_valleyEvent _ s)
  case axisTrip => exact event (leads_takeAxisReport _ s)
  case releaseTaken => exact event (leads_releaseEvent _ s)
  case rdvTimerExpiry | coalescingTimerExpiry | busIntervalTimerExpiry | portTimeout =>
    exact event (leads_expire _ s)
  case axisResult => exact event (leads_takeAxisResult _ _ s)
  case busResult => exact event (leads_takeBusResult _ s)
  case axisReadReturn => exact event (leads_axisReadOk _ s)
  case axisReadError => exact event (leads_axisReadFails _ s)
  case adminReadReturn => exact settled (starts_adminReadOk _ s)
  case adminReadError => exact event (leads_adminReadFails _ s)
  case completionWriteOk => exact event (leads_completionOk s)
  case completionWriteError => exact event (leads_completionFails _ s)
  case snapshotWriteResponse ok' =>
    refine event ?_
    split
    · exact leads_snapshotOk s
    · exact leads_snapshotFails _ s
  case lateResponse => exact .of_leads (.refl s)
  case resettingEnd => exact event (leads_endResetting s)
  case quiesceEnd => exact event (leads_endQuiesce s)
  case timebaseIncrement => exact event (leads_timebaseEvent s)
  case carrierCrossing => exact event (leads_carrierCross _ _ s)
  case deadTimeElapsed => exact (Starts.of_begins .waits).trans (leads_settle _)
  case legUConversionEnd => exact event (leads_legUEnds s)

/-- Every step is a row's first change and then a chain of small changes, with the command it takes out of the
queue. -/
theorem step_path {s t : State} (h : step s = .next t) (hs : ok → AxesHoldByState s) :
    ∃ u, Begins { s with pending := s.pending.tail } u ∧ Path ok u t := by
  refine Starts.path ?_ hs
  unfold step at h
  split at h
  · next hp =>
    obtain rfl := Host.Outcome.next.inj h
    have same : { s with pending := s.pending.tail } = s := by rw [hp]; exact congrArg _ hp.symm
    rw [same]
    exact starts_tick s
  · next c rest hp =>
    obtain ⟨u, hu, starts⟩ := starts_exec (ok := ok) c { s with pending := rest }
    rw [hu] at h
    obtain rfl := Host.Outcome.next.inj h
    rwa [hp]

end Sys2Proof.Machine
end

section
/-! The laws that every step keeps, each proved of the small changes and carried along the step. -/

namespace Sys2Proof.Machine

variable {ok : Prop}

/-- A law that the first change and the small changes keep, and that does not read the queue of waiting
commands, is kept by every step. -/
theorem kept_of_micro {law : State → Prop} (ok : Prop) (hold : ∀ s, law s → ok → AxesHoldByState s)
    (hpending : ∀ s l, law s → law { s with pending := l }) (hbegins : ∀ s t, law s → Begins s t → law t)
    (hmicro : ∀ s t, law s → Micro ok s t → law t) : Kept law := by
  intro s t hs hstep
  obtain ⟨u, begins, path⟩ := step_path (ok := ok) hstep (hold s hs)
  exact path.keeps hmicro (hbegins _ _ (hpending s _ hs) begins)

/-- A law of each axis alone is kept by every step. -/
theorem kept_of_axes {P : Axis → Prop} (h : ∀ running done x x', Axis.Evolves False running done x x' → P x → P x') :
    Kept fun s => ∀ a, P (s.axis a) :=
  kept_of_micro False (fun _ _ h => h.elim) (fun _ _ hs => hs) (fun _ _ hs hb => hb.forall_axis hs)
    (fun _ _ hs hm => hm.forall_axis h hs)

/-- Settles O54: every small change keeps the monitors of the axis it moves within their ranges. -/
theorem stepsKeepMonitorsInRange : Obligations.StepsKeepMonitorsInRange :=
  kept_of_axes (P := Axis.MonitorsOk) fun _ _ _ _ he hx => he.monitorsOk hx

/-- Settles O56: R80 is kept by every change of an axis with its place in the groups. -/
theorem stepsKeepGroupsConsistent : Obligations.StepsKeepGroupsConsistent := by
  refine kept_of_micro False (fun _ _ h => h.elim) (fun _ _ hs => hs) (fun s t hs hb => ?_) (fun s t hs hm => ?_)
  · rw [groupsConsistent_iff] at hs ⊢
    exact hs.frame hb.axes hb.groups
  · rw [groupsConsistent_iff] at hs ⊢
    exact hm.groupsStand hs

/-- Settles O57: the FIFOs, the ring indices and the converter's queue under every small change. -/
theorem stepsKeepQueuesSound : Obligations.StepsKeepQueuesSound :=
  kept_of_micro False (fun _ _ h => h.elim) (fun _ _ hs => hs) (fun _ _ hs hb => hb.queuesSound hs)
    (fun _ _ hs hm => hm.queuesSound hs)

/-- Settles O58: every piece of work that a small change retires is handed over or releases its reservation. -/
theorem stepsKeepReservationLaw : Obligations.StepsKeepReservationLaw :=
  kept_of_micro True (fun _ hs _ => hs.1) (fun _ _ hs => hs) (fun _ _ hs hb => hb.reservationLaw hs)
    (fun _ _ hs hm => hm.reservationLaw trivial hs)

/-- Settles O60: a half-period comes to an axis from a record that was validated or a configuration that was
checked. -/
theorem stepsKeepPeriodsLegal : Obligations.StepsKeepPeriodsLegal :=
  kept_of_micro True (fun _ hs _ a => (hs a).1) (fun _ _ hs => hs)
    (fun _ _ hs hb => hb.forall_axis (P := fun x => x.HoldsByState ∧ x.PeriodsOk) hs)
    (fun _ _ hs hm => hm.forall_axis (P := fun x => x.HoldsByState ∧ x.PeriodsOk)
      (fun _ _ _ _ he hx => ⟨he.holdsByState trivial hx.1, he.periodsOk hx.1 hx.2⟩) hs)

/-- Settles O55: a record comes and goes with TRIPPED (R99), and the small changes of a step either keep what it
remembers or clear the axis to IDLE, where it then stays. -/
theorem stepsKeepTripRecords : Obligations.StepsKeepTripRecords := by
  refine ⟨kept_of_axes (P := Axis.RecordMatches) fun _ _ _ _ he hx => he.recordMatches hx, ?_⟩
  intro s t hs hstep a r hr
  obtain ⟨u, begins, path⟩ := step_path (ok := False) hstep fun h => h.elim
  have same : u.axis a = s.axis a := axis_congr begins.axes a
  have tripped : (s.axis a).state = .tripped := by
    have := hs a
    rw [hr] at this
    simpa using this.symm
  have remembers : (u.axis a).Remembers r := by
    rw [same]
    exact ⟨tripped, r, hr, rfl, rfl, BitVec.or_self⟩
  rcases remembers_or_cleared path remembers with kept | cleared
  · exact .inr kept
  · exact .inl ⟨cleared.1, cleared.2.1⟩

/-- Settles O53: one demand at a time turns a switch on, and a demand that changes within a step has lasted no
tick at its end, so that no switch of an axis with dead time is on with it. -/
theorem switchesNeverShootThrough : Obligations.SwitchesNeverShootThrough := by
  intro s t hstep a l
  obtain ⟨u, begins, path⟩ := step_path (ok := False) hstep fun h => h.elim
  have anew : (t.gate a l).demand ≠ (s.gate a l).demand → (t.gate a l).held = 0 :=
    held_eq_zero_of_demand_ne begins path a l
  have on_iff : ∀ (v : State) side, switchOn v a l side = true ↔
      (v.gate a l).demand = side.demand ∧ (v.axis a).config.d ≤ (v.gate a l).held := by
    intro v side
    simp [switchOn]
  have not_both : ∀ side side' : Side, side ≠ side' → 0 < (t.axis a).config.d →
      switchOn s a l side = true → switchOn t a l side' = false := by
    intro side side' hne hd hs
    rw [Bool.eq_false_iff, ne_eq, on_iff]
    rintro ⟨demand, held⟩
    rw [on_iff] at hs
    have changed : (t.gate a l).demand ≠ (s.gate a l).demand := by
      rw [demand, hs.1]
      revert hne
      cases side <;> cases side' <;> decide
    rw [anew changed] at held
    omega
  refine ⟨?_, anew, fun hd => ⟨not_both .high .low (by decide) hd, not_both .low .high (by decide) hd⟩⟩
  rintro ⟨high, low⟩
  rw [on_iff] at high low
  rw [high.1] at low
  cases low.1

end Sys2Proof.Machine
end

section
/-! The control block (chapter 11): the front of the queue, reset, RESETTING, QUIESCING and the control register. -/

namespace Sys2Proof.Machine

/-! ### The state right after reset -/

/-- Settles O1: that is the definition of a step. -/
theorem stepRunsFrontCommand : Obligations.StepRunsFrontCommand := by
  intro s c rest h
  rw [step, h]

theorem axis_reset (a : AxisId) : State.reset.axis a = Axis.reset false := by
  simp [State.axis, State.reset]

theorem group_reset (g : GroupId) : State.reset.group g = Group.reset := by
  simp [State.group, State.reset]

/-- The blocks at their reset values, whatever the level of RESETn (R196, R197). -/
theorem nothingDue_resetBlocks (s : State) (low : Bool) : NothingDue { resetBlocks s with resetLow := low } := by
  refine ⟨fun a l => ?_, fun _ => ?_, fun _ _ _ => ⟨rfl, fun w hw => ?_⟩, ?_⟩
  · have idle : (State.axis { resetBlocks s with resetLow := low } a).state = .idle := by
      show ((resetBlocks s).axis a).state = _
      rw [axis_resetBlocks]
      rfl
    have gate : State.gate { resetBlocks s with resetLow := low } a l = Gate.reset := by
      simp [State.gate, resetBlocks, State.reset]
    rw [gate]
    unfold legDemand
    dsimp only
    rw [idle]
    split
    · rfl
    · split <;> rfl
  · have none_eligible : ∀ a, State.axisEligible { resetBlocks s with resetLow := low } a = false := fun _ => rfl
    have admin : State.adminEligible { resetBlocks s with resetLow := low } = false := rfl
    unfold arbiterChoice
    rw [admin, show State.axisEligible { resetBlocks s with resetLow := low } = fun _ => false from
      funext none_eligible]
    simp only [List.filter_false, List.find?_nil, List.head?_nil]
    rfl
  · cases hw
  · exact ⟨fun h => (by cases h), fun h => (by cases h)⟩

/-- Where nothing is due the end of an event changes nothing. -/
theorem settle_of_nothingDue {s : State} (h : NothingDue s) : settle s = s := by
  obtain ⟨gates, read, write, steady⟩ := h
  have served : servedRing s = none := by
    unfold servedRing
    split
    · next hr => exact read hr
    · rfl
  have issued : writeIssued s = s.writeTxn := by
    unfold writeIssued
    split
    · next hf =>
      obtain ⟨hq, hw⟩ := write hf.1 hf.2.1 hf.2.2
      rw [hq, hf.1]
      rcases hs : s.admin.snapshot with _ | ⟨_, _, _, issued⟩
      · rfl
      · obtain rfl : issued = true := hw _ hs
        rfl
    · rfl
  have snapshot : (if WriteFree s then s.admin.snapshot.map (fun w => { w with issued := true })
      else s.admin.snapshot) = s.admin.snapshot := by
    split
    · next hf =>
      obtain ⟨_, hw⟩ := write hf.1 hf.2.1 hf.2.2
      cases hs : s.admin.snapshot with
      | none => rfl
      | some w =>
        have := hw w hs
        obtain ⟨_, _, _, _⟩ := w
        subst this
        rfl
    · rfl
  refine Settles.unique (settles_settle steady) ?_
  refine ⟨rfl, fun a l => ?_, ?_, ?_, ?_, ?_, issued.symm, snapshot.symm⟩
  · rw [Gate.follow, if_pos (gates a l)]
  · rw [readIssued, served]
  · rw [served]
  · rw [served]; rfl
  · rw [served]; rfl

/-- Settles O3: every block at its reset values, law by law. -/
theorem resetKeepsEveryLaw : Obligations.ResetKeepsEveryLaw := by
  have reset : resetBlocks State.reset = State.reset := by
    simp only [resetBlocks, axis_reset]
    rfl
  have holds : (Axis.reset false).HoldsByState := by decide
  have nothing : NothingDue State.reset := by
    have := nothingDue_resetBlocks State.reset false
    rwa [reset] at this
  have ledger := ledgerBalanced_resetBlocks State.reset
  rw [reset] at ledger
  have admin : AdminHolds State.reset := adminHolds_of_no_command rfl rfl (by simp [State.read, State.reset])
  refine ⟨fun a => ?_, fun a => ?_, ⟨fun g => ?_, fun a => ?_⟩, fun a => ?_, fun a => ?_,
    ⟨List.nodup_nil, by simp [State.reset, Measurement.reset], by simp [State.reset, Measurement.reset]⟩,
    ⟨fun a => ?_, admin, .inr ⟨rfl, rfl, rfl⟩, ledger⟩, ⟨fun a => ?_, .inr ⟨rfl, rfl, rfl⟩, .inr ⟨rfl, rfl, rfl⟩⟩,
    nothing, fun a => ?_, rfl⟩
  · rw [axis_reset]; decide
  · rw [axis_reset]; decide
  · rw [group_reset]
    exact ⟨by decide, fun _ => rfl, fun a ha => absurd ha (by revert a; decide)⟩
  · rw [axis_reset]; decide
  · rw [axis_reset]; exact Nat.zero_le _
  · rw [axis_reset]; exact holds
  · rw [axis_reset]; exact holds
  · rw [axis_reset]; decide
  · rw [axis_reset]
    exact ⟨holds, by decide, by decide, by decide, by simp [Axis.reset], by simp [Axis.reset]⟩

/-! ### Pin reset (R197) -/

theorem steady_release {s : State} (h : Steady s) (low : Bool) (timebase : Word) (subTick : Nat) :
    Steady { s with resetLow := low, timebase := timebase, subTick := subTick } := h

/-- Settles O4: with the blocks at their reset values nothing is due, and the release changes the timebase alone. -/
theorem pinResetAndRelease : Obligations.PinResetAndRelease := by
  intro s
  refine ⟨?_, fun hl hs => ?_⟩
  · show Host.Outcome.next (settle (pinResetBegins s)) = _
    rw [pinResetBegins, settle_of_nothingDue (nothingDue_resetBlocks s true)]
    rfl
  · exact next_of_settle (u := resetReleases s) rfl (steady_release hs _ _ _) (if_pos hl)

/-! ### RESETTING and QUIESCING (R194, R196) -/

/-- RESETTING with no transaction outstanding ends at once (R196). -/
theorem settle_of_resetting {s : State} (hp : s.part = .resetting) (hr : s.readTxn = none)
    (hw : s.writeTxn = none) : settle s = resetBlocks s := by
  have quiesce : endQuiesce s = s := if_neg fun h => by rw [hp] at h; cases h.1
  have ends : endResetting s = resetBlocks s := if_pos ⟨hp, hr, hw⟩
  have due : NothingDue (resetBlocks s) := nothingDue_resetBlocks s s.resetLow
  have steady := due.2.2.2
  have after := settle_of_nothingDue due
  rw [settle_of_steady steady] at after
  rw [settle, quiesce, ends, after]

theorem settle_resetBlocks (s : State) : settle (resetBlocks s) = resetBlocks s :=
  settle_of_nothingDue (nothingDue_resetBlocks s s.resetLow)

/-- A response that leaves no transaction outstanding ends RESETTING, and one that leaves a transaction settles. -/
theorem resetting_awaits {s : State} {o : Host.Outcome State Fault Refusal} {readTxn : Option ReadTxn}
    {writeTxn : Option WriteTxn} (hp : s.part = .resetting)
    (ho : o = .next (settle { s with readTxn := readTxn, writeTxn := writeTxn })) :
    (readTxn = none → writeTxn = none → o = .next (resetBlocks s)) ∧
    (readTxn ≠ none ∨ writeTxn ≠ none →
      ∃ t, o = .next t ∧ Settles { s with readTxn := readTxn, writeTxn := writeTxn } t) := by
  refine ⟨fun hr hw => ?_, fun h => ?_⟩
  · rw [ho]
    exact congrArg _ (settle_of_resetting hp hr hw)
  · exact next_of_settle ho ⟨fun hq => absurd (hp.symm.trans hq) (by decide), fun _ => h⟩ rfl

/-- What both responses of a transaction do, and its timeout where its counter runs. -/
theorem exec_responses {s : State} {o : Host.Outcome State Fault Refusal} {i j k : Instr} {counter : Option Nat}
    (hi : exec i s = o) (hj : exec j s = o) (hk : counter ≠ none → exec k s = o) :
    ∀ c ∈ [i, j] ++ (if counter = none then [] else [k]), exec c s = o := by
  intro c hc
  simp only [List.cons_append, List.nil_append, List.mem_cons] at hc
  rcases hc with rfl | rfl | hc
  · exact hi
  · exact hj
  · split at hc
    · cases hc
    · next hn => exact List.mem_singleton.mp hc ▸ hk hn

theorem next_settle_congr {u v : State} (h : u = v) :
    (Host.Outcome.next (settle u) : Host.Outcome State Fault Refusal) = .next (settle v) := by rw [h]

/-- In RESETTING the outcome of the read outstanding is discarded, whatever it is (R147, R196). -/
theorem exec_read_in_resetting {s : State} {r : ReadTxn} (hp : s.part = .resetting) (hr : s.readTxn = some r)
    (record : List Byte) : ∀ c ∈ (match r.ring with
      | .axis _ => [Instr.axisReadReturn record, .axisReadError]
      | .admin => [Instr.adminReadReturn record, .adminReadError]) ++
        if r.counter = none then [] else [.portTimeout .read],
    exec c s = .next (settle { s with readTxn := none }) := by
  cases hring : r.ring with
  | axis a =>
    have fails : ∀ kind, axisReadFails kind s = { s with readTxn := none } := fun kind => by
      simp [axisReadFails, hr, hring, hp]
    exact exec_responses (next_settle_congr (by simp [axisReadOk, hr, hring, hp])) (next_settle_congr (fails _))
      fun hn => next_settle_congr (by simp [expire, portTimesOut, hr, hring, hn, fails])
  | admin =>
    have fails : ∀ kind, adminReadFails kind s = { s with readTxn := none } := fun kind => by
      simp [adminReadFails, hr, hring, hp]
    exact exec_responses (next_settle_congr (by simp [adminReadOk, hr, hring, hp])) (next_settle_congr (fails _))
      fun hn => next_settle_congr (by simp [expire, portTimesOut, hr, hring, hn, fails])

/-- In RESETTING the outcome of the write outstanding is discarded, whatever it is (R168, R196). -/
theorem exec_write_in_resetting {s : State} {w : WriteTxn} (hp : s.part = .resetting) (hw : s.writeTxn = some w) :
    ∀ c ∈ (match w.kind with
      | .completion => [Instr.completionWriteOk, .completionWriteError]
      | .snapshot => [Instr.snapshotWriteResponse true, .snapshotWriteResponse false]) ++
        if w.counter = none then [] else [.portTimeout .write],
    exec c s = .next (settle { s with writeTxn := none }) := by
  obtain ⟨kind, address, data, counter⟩ := w
  cases kind with
  | completion =>
    have fails : ∀ kind, completionFails kind s = { s with writeTxn := none } := fun kind => by
      simp [completionFails, hw, hp]
    exact exec_responses (next_settle_congr (by simp [completionOk, hw, hp])) (next_settle_congr (fails _))
      fun hn => next_settle_congr (by simp [expire, portTimesOut, hw, hn, fails])
  | snapshot =>
    have fails : ∀ kind, snapshotFails kind s = { s with writeTxn := none } := fun kind => by
      cases h : s.admin.snapshot <;> simp [snapshotFails, hw, h, hp]
    have answers : snapshotOk s = { s with writeTxn := none } := by
      cases h : s.admin.snapshot <;> simp [snapshotOk, hw, h, hp]
    exact exec_responses (next_settle_congr (by simp [answers])) (next_settle_congr (by simp [fails]))
      fun hn => next_settle_congr (by simp [expire, portTimesOut, hw, hn, fails])

/-- Settles O5: the ends of RESETTING and QUIESCING come about with the event that makes them due, so that each
row is the settling of what it leaves. -/
theorem resettingAndQuiesceEnd : Obligations.ResettingAndQuiesceEnd := by
  intro s
  refine ⟨fun hp => ⟨fun hr hw => ?_, fun h => ?_, fun r hr record c hc => ?_, fun w hw c hc => ?_⟩,
    fun hp => ⟨fun hn => ?_, fun hn => ?_⟩, fun hp hs => ?_, fun hp hs => ?_⟩
  · have ends : endResetting s = resetBlocks s := if_pos ⟨hp, hr, hw⟩
    show Host.Outcome.next (settle (endResetting s)) = _
    rw [ends, settle_resetBlocks]
    rfl
  · exact next_of_settle rfl ⟨fun hq => absurd (hp.symm.trans hq) (by decide), fun _ => h⟩
      (endResetting_of_steady ⟨fun hq => absurd (hp.symm.trans hq) (by decide), fun _ => h⟩)
  · obtain ⟨ends, awaits⟩ := resetting_awaits (readTxn := none) (writeTxn := s.writeTxn) hp
      (exec_read_in_resetting hp hr record c hc)
    exact ⟨ends rfl, fun hw => awaits (.inr hw)⟩
  · obtain ⟨ends, awaits⟩ := resetting_awaits (readTxn := s.readTxn) (writeTxn := none) hp
      (exec_write_in_resetting hp hw c hc)
    exact ⟨fun hr => ends hr rfl, fun hr => awaits (.inl hr)⟩
  · refine next_of_settle (u := endQuiesce s) rfl ⟨fun h => (by cases h), fun h => (by cases h)⟩ ?_
    rw [endQuiesce, if_pos ⟨hp, hn⟩]
    rfl
  · have steady : Steady s := ⟨fun _ => hn, fun h => absurd (hp.symm.trans h) (by decide)⟩
    exact next_of_settle rfl steady (endQuiesce_of_steady steady)
  · exact next_of_settle rfl hs (endResetting_of_steady hs)
  · exact next_of_settle rfl hs (endQuiesce_of_steady hs)

/-! ### Soft reset (R196) -/

/-- The requests of a list of axes become stale together (R118). -/
theorem markStales_eq (l : List AxisId) (s : State) : l.foldl (fun s a => markStale a s) s =
    { s with meas := { s.meas with queue := s.meas.queue.map fun q =>
        if (∃ a ∈ l, q.source = .axis a) then { q with stale := true } else q } } := by
  induction l generalizing s with
  | nil => simp
  | cons a l ih =>
    rw [List.foldl_cons, ih]
    simp only [markStale, List.map_map]
    congr 3
    funext q
    by_cases h : q.source = .axis a <;> simp [h]

theorem mem_axisIds (a : AxisId) : a ∈ axisIds := by revert a; decide

/-- The stale requests of a soft reset are those of the active axes (R118). -/
theorem staleForActive_eq (s : State) (q : ConvRequest) :
    (if (∃ a ∈ axisIds.filter s.activeAxis, q.source = .axis a) then { q with stale := true } else q) =
      match q.source with
      | .axis a => if s.activeAxis a = true then { q with stale := true } else q
      | .bus => q := by
  cases h : q.source <;> simp [mem_axisIds]

/-- Settles O6: with nothing outstanding RESETTING ends as it is entered; else it is entered and settles. -/
theorem softResetAwaitsTransactions : Obligations.SoftResetAwaitsTransactions := by
  intro s enable restart hl
  have row : exec (.softReset enable restart) s = .next (settle (enterResetting s)) := by
    show Host.Outcome.next (settle (writeCtrl enable true restart s)) = _
    simp [writeCtrl, hl]
  have entered : enterResetting s = { s with
      part := .resetting
      readTxn := s.readTxn.map fun x => { x with counter := some (x.counter.getD 255) }
      writeTxn := s.writeTxn.map fun x => { x with counter := some (x.counter.getD 255) }
      groups := Vector.ofFn fun g => { s.group g with timer := none }
      meas := { s.meas with
        busTimer := none
        queue := s.meas.queue.map fun q => match q.source with
          | .axis a => if s.activeAxis a = true then { q with stale := true } else q
          | .bus => q }
      comp := { s.comp with coalescingTimer := none }
      admin := { s.admin with snapshot := s.admin.snapshot.filter (·.issued) } } := by
    unfold enterResetting
    dsimp only
    rw [markStales_eq]
    simp only [staleForActive_eq]
    rfl
  rw [row]
  refine ⟨fun hr hw => ?_, fun h => ?_⟩
  · have low : s.resetLow = false := (live_iff.mp hl).1
    have ends : resetBlocks (enterResetting s) = { State.reset with
        resetLow := s.resetLow
        axes := Vector.ofFn fun a => { Axis.reset false with pinActive := (s.axis a).pinActive }
        emergency := s.emergency
        busRead := s.busRead, freeCount := s.freeCount, pending := s.pending } := by
      rw [entered]
      rfl
    rw [settle_of_resetting rfl (by simp [entered, hr]) (by simp [entered, hw]), ends, low]
    rfl
  · have outstanding : (enterResetting s).readTxn ≠ none ∨ (enterResetting s).writeTxn ≠ none := by
      rw [entered]
      simpa using h
    have resetting : (enterResetting s).part = .resetting := rfl
    have steady : Steady (enterResetting s) :=
      ⟨fun hq => absurd (resetting.symm.trans hq) (by decide), fun _ => outstanding⟩
    have settles := settles_settle steady
    refine ⟨_, rfl, fun a l => ?_, entered ▸ settles⟩
    have part : (settle (enterResetting s)).part = .resetting := by rw [settles.frame]; rfl
    have off : legDemand (settle (enterResetting s)) a l = .neither := by
      simp only [legDemand, part, if_true, ite_self]
    rw [settles.gates, off, Gate.follow]
    split
    · assumption
    · rfl

/-! ### The control register (R175, R191, R193) -/

/-- The admin unit after an ADMIN_RESTART (R175). -/
def restarted (u : AdminUnit) (restart : Bool) : AdminUnit :=
  if restart = true ∧ u.state = .halted then { u with state := .waiting, haltReason := .none } else u

theorem restart_eq (restart : Bool) (s : State) :
    (if restart then restartAdmin s else s) = { s with admin := restarted s.admin restart } := by
  unfold restartAdmin restarted
  cases restart <;> by_cases h : s.admin.state = .halted <;> simp [h]

/-- A CTRL write without SOFT_RESET (R191). -/
theorem writeCtrl_of_live {s : State} (hl : s.live = true) (enable restart : Bool) :
    writeCtrl enable false restart s =
      if enable = true ∧ s.part = .disabled then
        enablePart { s with admin := restarted s.admin restart }
      else if enable = false ∧ s.part = .running then
        disablePart { s with admin := restarted s.admin restart }
      else { s with admin := restarted s.admin restart } := by
  unfold writeCtrl
  simp only [restart_eq, hl]
  cases enable <;> simp

/-- Settles O7: ENABLE acts in DISABLED alone. -/
theorem setEnableRunsDisabledPart : Obligations.SetEnableRunsDisabledPart := by
  intro s restart hl hs
  refine next_of_settle (u := writeCtrl true false restart s) rfl ?_ ?_
  · split
    · exact ⟨fun h => (by cases h), fun h => (by cases h)⟩
    · exact hs
  · rw [writeCtrl_of_live hl]
    simp only [true_and, Bool.true_eq_false, false_and, if_false]
    rfl

/-- Settles O9: ADMIN_RESTART is the CTRL write whose other bit stands. -/
theorem adminRestartLeavesHalted : Obligations.AdminRestartLeavesHalted := by
  intro s enable hl hs
  refine ⟨fun hd hr => ?_, fun he => by rw [he]; rfl, fun he => by rw [he]; rfl⟩
  refine next_of_settle (u := writeCtrl enable false true s) rfl hs ?_
  rw [writeCtrl_of_live hl, if_neg fun h => hd h.1 h.2, if_neg fun h => hr h.1 h.2]
  simp only [restarted, true_and]

/-! ### ADMRING (R192) -/

/-- The low six bits cleared are the word rounded down to a multiple of 64 (R192). -/
theorem and_not_63 (value : Word) : value &&& 0xFFFFFFC0#32 = BitVec.ofNat 32 (value.toNat / 64 * 64) := by
  have mask : ∀ i < 32, (0xFFFFFFC0#32).getLsbD i = decide (6 ≤ i) := by decide
  have rounded : value.toNat / 64 * 64 = value.toNat >>> 6 <<< 6 := by
    rw [Nat.shiftLeft_eq, Nat.shiftRight_eq_div_pow]
  refine BitVec.eq_of_getLsbD_eq fun i hi => ?_
  rw [BitVec.getLsbD_and, mask i hi, BitVec.getLsbD_ofNat, rounded, Nat.testBit_shiftLeft,
    Nat.testBit_shiftRight, decide_eq_true hi, Bool.true_and]
  by_cases h : 6 ≤ i
  · rw [Nat.add_sub_cancel' h]
    simp [h, BitVec.getLsbD]
  · simp [h]

theorem admringSize_of_allowed {code : Nat} (h : code = 0 ∨ (2 ≤ code ∧ code ≤ 12)) :
    admringSize code = some (if code = 0 then 0 else 2 ^ code) := by
  unfold admringSize
  rcases h with h | h
  · simp [h]
  · have : code ≠ 0 := by omega
    simp [h, this]

theorem admringSize_of_not_allowed {code : Nat} (h : code = 1 ∨ 12 < code) : admringSize code = none := by
  unfold admringSize
  rw [if_neg (by omega), if_neg (by omega)]

/-- Settles O10: the low four bits are the size code, and the rest of the word is the base. -/
theorem admringAcceptedInDisabled : Obligations.AdmringAcceptedInDisabled := by
  intro s value hl hs
  have code : (value.extractLsb' 0 4).toNat = value.toNat % 16 := by simp
  have live : (!s.live) = false := by rw [hl]; rfl
  refine ⟨fun hd hc => ?_, fun h => ?_⟩
  · refine next_of_settle (u := writeAdmring value s) rfl hs ?_
    unfold writeAdmring
    rw [live, code, admringSize_of_allowed hc, and_not_63]
    exact if_pos hd
  · refine next_of_settle (u := writeAdmring value s) rfl hs ?_
    unfold writeAdmring
    rw [live, code, recordFault_eq]
    by_cases hc : value.toNat % 16 = 1 ∨ 12 < value.toNat % 16
    · rw [admringSize_of_not_allowed hc]
      rfl
    · rw [admringSize_of_allowed (by omega)]
      exact if_neg (h.resolve_right hc)

end Sys2Proof.Machine
end

section
/-! The quiesce that a cleared ENABLE begins (R194): the trips of the active axes within its one event. -/

namespace Sys2Proof.Machine

/-! ### What a report taken changes (R86, R95, R100) -/

/-- The reports that the trip of axis a makes (R86). -/
def brokenReports (s : State) (a : AxisId) : List Report := groupIds.flatMap fun g => breakReports a (s.group g)

/-- The completion unit as completions are handed over to it in a part state (R157, R161). -/
def CompletionUnit.handed (c : CompletionUnit) (part : PartState) (cs : List Completion) : CompletionUnit :=
  if c.ringSize = 0 then c
  else if part = .failed then { c with reservations := c.reservations - cs.length }
  else { c with queue := c.queue ++ cs }

/-- Completions handed over change the completion unit alone. -/
theorem handedOver_eq (cs : List Completion) (s : State) :
    handedOver cs s = { s with comp := s.comp.handed s.part cs } := by
  unfold handedOver CompletionUnit.handed
  split_ifs <;> rfl

theorem handed_reservations (c : CompletionUnit) {part : PartState} (cs : List Completion) (hp : part ≠ .failed) :
    (c.handed part cs).reservations = c.reservations := by
  unfold CompletionUnit.handed
  split_ifs <;> rfl

theorem handedOver_axes (cs : List Completion) (s : State) : (handedOver cs s).axes = s.axes := by
  rw [handedOver_eq]

theorem handedOver_reservations {s : State} (cs : List Completion) (hp : s.part ≠ .failed) :
    (handedOver cs s).comp.reservations = s.comp.reservations := by
  rw [handedOver_eq]
  exact handed_reservations _ cs hp

theorem axis_trippedAt (a b : AxisId) (c : TripCause) (s : State) : (trippedAt a c s).axis b =
    if b = a then (s.axis a).afterTrip c s.timebase else s.axis b := by
  have axes : (trippedAt a c s).axes = (s.setAxis a ((s.axis a).afterTrip c s.timebase)).axes :=
    handedOver_axes _ _
  rw [axis_congr axes, axis_setAxis]

theorem group_trippedAt (a : AxisId) (c : TripCause) (s : State) (g : GroupId) : (trippedAt a c s).group g =
    if Breaks (s.group g) a then (s.group g).broken else s.group g := by
  show (Vector.ofFn _)[g] = _
  simp

theorem reports_trippedAt (a : AxisId) (c : TripCause) (s : State) :
    (trippedAt a c s).reports = s.reports ++ brokenReports s a := rfl

/-- A report that a trip makes is RDV_BROKEN, to an axis that had arrived at a group (R86). -/
theorem mem_brokenReports {s : State} {a : AxisId} {r : Report} (h : r ∈ brokenReports s a) :
    r.cause = .rdvBroken ∧ r.axis ≠ a ∧ ∃ g, hasAxis (s.group g).arrived r.axis = true := by
  obtain ⟨g, _, hr⟩ := List.mem_flatMap.mp h
  unfold breakReports at hr
  split at hr
  · obtain ⟨b, hb, rfl⟩ := List.mem_map.mp hr
    obtain ⟨harr, hne⟩ := List.mem_filter.mp hb
    exact ⟨rfl, by simpa using hne, g, mem_axesOf.mp harr⟩
  · cases hr

/-- With no other axis in an arrived set a trip makes no report. -/
theorem brokenReports_eq_nil {s : State} {a : AxisId}
    (h : ∀ b ≠ a, ∀ g, hasAxis (s.group g).arrived b = false) : brokenReports s a = [] := by
  refine List.eq_nil_iff_forall_not_mem.mpr fun r hr => ?_
  obtain ⟨_, hne, g, hg⟩ := mem_brokenReports hr
  rw [h _ hne g] at hg
  cases hg

/-! ### All the reports of an event are taken within it (R194) -/

/-- The next event taken and the rest are the events that were due. -/
theorem pickNext_perm {α : Type} {k : Nat} {l rest : List α} {x : α} (h : pickNext k l = some (x, rest)) :
    l.Perm (x :: rest) := by
  unfold pickNext at h
  split at h
  · cases h
  · obtain ⟨rfl, rfl⟩ := Prod.mk.inj (Option.some.inj h)
    exact .refl _
  · next y z tail =>
    dsimp only at h
    obtain ⟨rfl, rfl⟩ := Prod.mk.inj (Option.some.inj h)
    have hi : Config.freeChoice k % (y :: z :: tail).length < (y :: z :: tail).length :=
      Nat.mod_lt _ (by simp)
    rw [List.getD_eq_getElem _ _ hi]
    exact (List.getElem_cons_eraseIdx_perm hi).symm

theorem pickNext_eq_none {α : Type} {k : Nat} {l : List α} (h : pickNext k l = none) : l = [] := by
  unfold pickNext at h
  split at h
  · rfl
  · cases h
  · cases h

/-- What a group can still add to the reports of the event: one for each axis, as it breaks. -/
def Group.reportsLeft (y : Group) : Nat := if y.state = .gathering then 4 else 0

/-- How many reports can still be taken in the event. -/
def State.reportsLeft (s : State) : Nat :=
  s.reports.length + (groupIds.map fun g => (s.group g).reportsLeft).sum

theorem length_flatMap_add_sum_le {α β : Type} (l : List α) (f : α → List β) (m n : α → Nat)
    (h : ∀ x ∈ l, (f x).length + m x ≤ n x) : (l.flatMap f).length + (l.map m).sum ≤ (l.map n).sum := by
  induction l with
  | nil => simp
  | cons x l ih =>
    have := h x List.mem_cons_self
    have := ih fun y hy => h y (List.mem_cons_of_mem x hy)
    simp only [List.flatMap_cons, List.length_append, List.map_cons, List.sum_cons]
    omega

theorem length_breakReports_le (a : AxisId) (y : Group) :
    (breakReports a y).length + (if Breaks y a then y.broken else y).reportsLeft ≤ y.reportsLeft := by
  unfold breakReports
  split
  · next hb =>
    have few : ((axesOf y.arrived).filter (· ≠ a)).length ≤ 4 :=
      (List.length_filter_le _ _).trans (List.length_filter_le _ _)
    simp only [List.length_map, Group.reportsLeft, Group.broken, hb.1]
    simpa using few
  · simp

/-- A report taken leaves no more than there was, apart from itself (R86). -/
theorem reportsLeft_reportTaken (a : AxisId) (c : TripCause) (s : State) :
    (reportTaken a c s).reportsLeft ≤ s.reportsLeft := by
  unfold reportTaken
  dsimp only
  split
  · exact le_refl _
  · split
    · exact le_refl _
    · unfold State.reportsLeft
      rw [reports_trippedAt, List.length_append, Nat.add_assoc]
      refine Nat.add_le_add_left ?_ _
      refine length_flatMap_add_sum_le _ _ _ _ fun g _ => ?_
      rw [group_trippedAt]
      exact length_breakReports_le a _

/-- Enough is allowed for every report of the event to be taken, whatever each keeps (R194). -/
theorem takeReportsUpTo_takes_all {P : State → Prop} (bound : Nat) (s : State) (hb : s.reportsLeft ≤ bound)
    (hs : P s) (htake : ∀ u r rest n, P u → u.reports.Perm (r :: rest) →
      P (takeReport r { u with reports := rest, freeCount := n })) :
    P (takeReportsUpTo bound s) ∧ (takeReportsUpTo bound s).reports = [] := by
  induction bound generalizing s with
  | zero =>
    refine ⟨hs, List.eq_nil_of_length_eq_zero ?_⟩
    unfold State.reportsLeft at hb
    show s.reports.length = 0
    omega
  | succ bound ih =>
    unfold takeReportsUpTo
    split
    · next hn => exact ⟨hs, pickNext_eq_none hn⟩
    · next r rest hr =>
      have perm := pickNext_perm hr
      refine ih _ ?_ (htake s r rest _ hs perm)
      rw [takeReport_eq]
      refine (reportsLeft_reportTaken _ _ _).trans ?_
      have : s.reports.length = rest.length + 1 := by rw [perm.length_eq]; rfl
      unfold State.reportsLeft at hb ⊢
      show rest.length + (groupIds.map fun g => (s.group g).reportsLeft).sum ≤ bound
      omega

theorem reportsLeft_le (s : State) : s.reportsLeft ≤ s.reports.length + 32 := by
  have each : ∀ g, (s.group g).reportsLeft ≤ 4 := by
    intro g
    unfold Group.reportsLeft
    split <;> decide
  refine Nat.add_le_add_left ?_ _
  have := List.sum_le_card_nsmul (groupIds.map fun g => (s.group g).reportsLeft) 4 (by
    intro n hn
    obtain ⟨g, _, rfl⟩ := List.mem_map.mp hn
    exact each g)
  exact this

/-! ### The trips of a quiesce (R109, R194) -/

/-- An axis that was active either still is, its HOST_DISABLE in flight, or has tripped in this event, by
HOST_DISABLE, or by RDV_BROKEN with HOST_DISABLE a later cause or in flight. -/
def DisablesAxis (s u : State) (a : AxisId) : Prop :=
  ((u.axis a).state.isActive = true ∧ ⟨a, .hostDisable⟩ ∈ u.reports) ∨
  ((u.axis a).state = .tripped ∧ ∃ r, (u.axis a).tripRecord = some r ∧ r.timestamp = s.timebase ∧
    (r.first = .hostDisable ∨ r.first = .rdvBroken ∧
      (r.later.getLsbD (causeCode .hostDisable - 1) = true ∨ ⟨a, .hostDisable⟩ ∈ u.reports)))

/-- While the reports of a quiesce are taken: the part takes events, all reports are HOST_DISABLE or RDV_BROKEN,
each axis that was active is on its way to its trip, and one that nothing concerns is as it was. -/
structure Disabling (s u : State) : Prop where
  live : u.live = true
  timebase : u.timebase = s.timebase
  causes : ∀ r ∈ u.reports, r.cause = .hostDisable ∨ r.cause = .rdvBroken
  disables : ∀ a, s.activeAxis a = true → DisablesAxis s u a
  others : ∀ a, s.activeAxis a = false → (∀ g, hasAxis (s.group g).arrived a = false) →
    u.axis a = s.axis a ∧ (∀ r ∈ u.reports, r.axis ≠ a) ∧ ∀ g, hasAxis (u.group g).arrived a = false

/-- What a report taken does to a part that takes events, by the state of its axis (R95). -/
theorem reportTaken_cases {s : State} (a : AxisId) (c : TripCause) (hl : s.live = true) :
    ((s.axis a).state = .idle ∧ reportTaken a c s = s) ∨
    ((s.axis a).state = .tripped ∧ reportTaken a c s = s.setAxis a { s.axis a with
      tripRecord := (s.axis a).tripRecord.map (·.addLater c) }) ∨
    ((s.axis a).state.isActive = true ∧ reportTaken a c s = trippedAt a c s) := by
  obtain ⟨hr, hp⟩ := live_iff.mp hl
  unfold reportTaken
  dsimp only
  rw [hr]
  cases hs : (s.axis a).state
  case idle => exact .inl ⟨rfl, if_pos (.inr (.inr rfl))⟩
  case tripped =>
    refine .inr (.inl ⟨rfl, ?_⟩)
    rw [if_neg (by simp [hp]), if_pos rfl]
    rfl
  all_goals
    refine .inr (.inr ⟨rfl, ?_⟩)
    rw [if_neg (by simp [hp]), if_neg (by decide)]

theorem getLsbD_addLater (t : TripRecord) (c d : TripCause) :
    (t.addLater c).later.getLsbD (causeCode d - 1) = (t.later.getLsbD (causeCode d - 1) || decide (d = c)) := by
  have bit : (causeBit c).getLsbD (causeCode d - 1) = decide (d = c) := by
    cases c <;> cases d <;> decide
  rw [TripRecord.addLater, BitVec.getLsbD_or, bit]

/-- An axis that was active, as its own next report or another one is taken. -/
theorem DisablesAxis.taken {s u v : State} {a : AxisId} {r : Report} (h : DisablesAxis s u a)
    (hr : r.cause = .hostDisable ∨ r.cause = .rdvBroken)
    (hreports : ∀ q ∈ u.reports, q = r ∨ q ∈ v.reports)
    (hother : r.axis ≠ a → v.axis a = u.axis a)
    (hown : r.axis = a → ((u.axis a).state = .tripped ∧ v.axis a = { u.axis a with
        tripRecord := (u.axis a).tripRecord.map (·.addLater r.cause) }) ∨
      ((u.axis a).state.isActive = true ∧ v.axis a = (u.axis a).afterTrip r.cause s.timebase)) :
    DisablesAxis s v a := by
  by_cases hra : r.axis = a
  · have own : r.cause = .rdvBroken → ⟨a, .hostDisable⟩ ∈ u.reports → ⟨a, .hostDisable⟩ ∈ v.reports := by
      intro hc hm
      refine (hreports _ hm).resolve_left fun he => ?_
      rw [← he] at hc
      cases hc
    rcases hown hra with ⟨tripped, hv⟩ | ⟨active, hv⟩
    · obtain ⟨_, t, ht, hts, hfirst⟩ := h.resolve_left fun h => by rw [tripped] at h; cases h.1
      refine .inr ⟨by rw [hv]; exact tripped, t.addLater r.cause, by rw [hv, ht]; rfl, hts, ?_⟩
      refine hfirst.imp id fun ⟨hf, hl⟩ => ⟨hf, ?_⟩
      rw [getLsbD_addLater]
      rcases hr with hc | hc
      · left; simp [hc]
      · rcases hl with hl | hl
        · left; simp [hl]
        · exact .inr (own hc hl)
    · obtain ⟨_, flight⟩ := h.resolve_right fun h => by rw [h.1] at active; cases active
      refine .inr ⟨by rw [hv]; rfl, ⟨r.cause, s.timebase, 0⟩, by rw [hv]; rfl, rfl, ?_⟩
      exact hr.imp id fun hc => ⟨hc, .inr (own hc flight)⟩
  · have keeps : ⟨a, .hostDisable⟩ ∈ u.reports → ⟨a, .hostDisable⟩ ∈ v.reports := fun hm =>
      (hreports _ hm).resolve_left fun he => hra (by rw [← he])
    unfold DisablesAxis
    rw [hother hra]
    exact h.imp (fun h => ⟨h.1, keeps h.2⟩) fun ⟨h1, t, h2, h3, h4⟩ =>
      ⟨h1, t, h2, h3, h4.imp id fun h => ⟨h.1, h.2.imp id keeps⟩⟩

theorem Disabling.taken {s u : State} {r : Report} {rest : List Report} (n : Nat) (h : Disabling s u)
    (hr : u.reports.Perm (r :: rest)) :
    Disabling s (takeReport r { u with reports := rest, freeCount := n }) := by
  have head : r ∈ u.reports := hr.mem_iff.mpr List.mem_cons_self
  have tail : ∀ q ∈ rest, q ∈ u.reports := fun q hq => hr.mem_iff.mpr (List.mem_cons_of_mem r hq)
  have split : ∀ q ∈ u.reports, q = r ∨ q ∈ rest := fun q hq => List.mem_cons.mp (hr.mem_iff.mp hq)
  have frame := AxisSide.takeReport { u with reports := rest, freeCount := n } r
  have live : (takeReport r { u with reports := rest, freeCount := n }).live = true := by
    unfold State.live
    rw [frame.resetLow, frame.part]
    exact h.live
  have timebase := frame.timebase.trans h.timebase
  rw [takeReport_eq] at live timebase ⊢
  rcases reportTaken_cases (s := { u with reports := rest, freeCount := n }) r.axis r.cause h.live with
    ⟨idle, he⟩ | ⟨tripped, he⟩ | ⟨active, he⟩ <;> rw [he] at live timebase ⊢
  · refine ⟨live, timebase, fun q hq => h.causes q (tail q hq), fun a ha => ?_, fun a hna harr => ?_⟩
    · refine (h.disables a ha).taken (h.causes r head) split (fun _ => rfl) fun hra => ?_
      subst hra
      rcases h.disables _ ha with ⟨hs, _⟩ | ⟨hs, _⟩
      · rw [show (u.axis r.axis).state = .idle from idle] at hs; cases hs
      · rw [show (u.axis r.axis).state = .idle from idle] at hs; cases hs
    · obtain ⟨h1, h2, h3⟩ := h.others a hna harr
      exact ⟨h1, fun q hq => h2 q (tail q hq), h3⟩
  · refine ⟨live, timebase, fun q hq => h.causes q (tail q hq), fun a ha => ?_, fun a hna harr => ?_⟩
    · refine (h.disables a ha).taken (h.causes r head) split (fun hra => ?_) fun hra => ?_
      · exact axis_setAxis_ne _ _ fun e => hra e.symm
      · subst hra
        exact .inl ⟨tripped, axis_setAxis_self _ _ _⟩
    · obtain ⟨h1, h2, h3⟩ := h.others a hna harr
      refine ⟨(axis_setAxis_ne _ _ fun e => h2 r head e.symm).trans h1, fun q hq => h2 q (tail q hq), h3⟩
  · have inReports : ∀ q ∈ rest, q ∈ (trippedAt r.axis r.cause { u with reports := rest, freeCount := n }).reports := by
      intro q hq
      rw [reports_trippedAt]
      exact List.mem_append_left _ hq
    have axis := fun a => axis_trippedAt r.axis a r.cause { u with reports := rest, freeCount := n }
    refine ⟨live, timebase, fun q hq => ?_, fun a ha => ?_, fun a hna harr => ?_⟩
    · rw [reports_trippedAt] at hq
      rcases List.mem_append.mp hq with hq | hq
      · exact h.causes q (tail q hq)
      · exact .inr (mem_brokenReports hq).1
    · refine (h.disables a ha).taken (h.causes r head) (fun q hq => (split q hq).imp id (inReports q))
        (fun hra => ?_) fun hra => ?_
      · rw [axis, if_neg fun e => hra e.symm]; rfl
      · subst hra
        refine .inr ⟨active, ?_⟩
        rw [axis, if_pos rfl, ← h.timebase]; rfl
    · obtain ⟨h1, h2, h3⟩ := h.others a hna harr
      refine ⟨?_, fun q hq => ?_, fun g => ?_⟩
      · rw [axis, if_neg fun e => h2 r head e.symm]
        exact h1
      · rw [reports_trippedAt] at hq
        rcases List.mem_append.mp hq with hq | hq
        · exact h2 q (tail q hq)
        · obtain ⟨_, _, g, hg⟩ := mem_brokenReports hq
          intro e
          rw [e] at hg
          exact absurd (hg.symm.trans (h3 g)) (by decide)
      · rw [group_trippedAt]
        split
        · exact not_hasAxis_broken _ a
        · exact h3 g

/-! ### ENABLE cleared (R191, R194) -/

/-- The part as a quiesce begins, before HOST_DISABLE is taken. -/
def quiescing (s : State) (admin : AdminUnit) : State :=
  { s with part := .quiescing, meas := { s.meas with busTimer := none }, admin := admin }

theorem settle_endQuiesce (s : State) : settle (endQuiesce s) = settle s := by
  have idem : endQuiesce (endQuiesce s) = endQuiesce s := by
    unfold endQuiesce
    split
    · exact if_neg fun h => by cases h.1
    · rfl
  rw [settle, idem, settle]

theorem steady_endQuiesce {s : State} (h : s.part ≠ .resetting) : Steady (endQuiesce s) := by
  unfold endQuiesce
  split
  · exact ⟨fun h => (by cases h), fun h => (by cases h)⟩
  · next hn => exact ⟨fun hq hr => hn ⟨hq, hr⟩, fun hr => absurd hr h⟩

/-- A quiesce that is over as soon as it begins ends with its event (R194). -/
theorem next_of_quiescing {s u : State} {o : Host.Outcome State Fault Refusal} (ho : o = .next (settle s))
    (hp : s.part = .quiescing) (hu : (if s.comp.reservations = 0 then
      { s with part := .disabled, icause := s.icause ||| 0b010000#6 } else s) = u) :
    ∃ t, o = .next t ∧ Settles u t := by
  have ends : endQuiesce s = u := by
    rw [← hu]
    unfold endQuiesce
    by_cases h : s.comp.reservations = 0
    · rw [if_pos ⟨hp, h⟩, if_pos h]
      rfl
    · rw [if_neg fun k => h k.2, if_neg h]
  rw [← ends]
  refine ⟨_, ho, ?_⟩
  rw [← settle_endQuiesce]
  exact settles_settle (steady_endQuiesce (by rw [hp]; decide))

/-- CLEAR_ENABLE in RUNNING (R194). -/
theorem exec_clearEnable {s : State} (restart : Bool) (hl : s.live = true) (hp : s.part = .running) :
    exec (.clearEnable restart) s =
      .next (settle (disablePart { s with admin := restarted s.admin restart })) := by
  show Host.Outcome.next (settle (writeCtrl false false restart s)) = _
  rw [writeCtrl_of_live hl, if_neg fun h => Bool.false_ne_true h.1, if_pos ⟨rfl, hp⟩]

/-- The HOST_DISABLE reports with which a quiesce begins (R109). -/
def disabling (s : State) (admin : AdminUnit) : State :=
  report .hostDisable (axisIds.filter s.activeAxis)
    { s with part := .quiescing, reports := [], admin := admin }

theorem disablePart_eq (s : State) (admin : AdminUnit) : disablePart { s with admin := admin } =
    { takeReports (disabling s admin) with
      reports := s.reports
      meas := { (takeReports (disabling s admin)).meas with busTimer := none } } := rfl

theorem takeReportsUpTo_of_none (bound : Nat) {s : State} (h : s.reports = []) : takeReportsUpTo bound s = s := by
  cases bound with
  | zero => rfl
  | succ bound => rw [takeReportsUpTo, h, pickNext_nil]

/-- The bus interval timer and the reports in flight are no part of a trip but for those it makes. -/
theorem trippedAt_frame (a : AxisId) (c : TripCause) (s : State) (reports : List Report) (busTimer : Option Nat) :
    trippedAt a c { s with reports := reports, meas := { s.meas with busTimer := busTimer } } =
      { trippedAt a c s with
        reports := reports ++ brokenReports s a
        meas := { (trippedAt a c s).meas with busTimer := busTimer } } := by
  simp only [trippedAt, handedOver_eq]
  rfl

/-- With no axis active nothing trips. -/
theorem disablePart_of_none_active {s : State} (admin : AdminUnit) (h : ∀ a, s.activeAxis a = false) :
    disablePart { s with admin := admin } = quiescing s admin := by
  have none_active : axisIds.filter s.activeAxis = [] :=
    List.filter_eq_nil_iff.mpr fun a _ => by rw [h a]; decide
  have quiet : (disabling s admin).reports = [] := by
    unfold disabling
    rw [none_active]
    rfl
  rw [disablePart_eq, takeReports, takeReportsUpTo_of_none _ quiet]
  rfl

/-- With one axis active, and no other in an arrived set, that axis trips and makes no report. -/
theorem disablePart_of_one_active {s : State} (admin : AdminUnit) {a : AxisId} (hl : s.live = true)
    (ha : s.activeAxis a = true)
    (h : ∀ b ≠ a, s.activeAxis b = false ∧ ∀ g, hasAxis (s.group g).arrived b = false) :
    disablePart { s with admin := admin } = trippedAt a .hostDisable (quiescing s admin) := by
  have one : axisIds.filter s.activeAxis = [a] := by
    have : s.activeAxis = fun b => decide (b = a) := by
      funext b
      by_cases e : b = a
      · rw [e, ha]; simp
      · rw [(h b e).1]; simp [e]
    rw [this]
    exact (show ∀ a : AxisId, axisIds.filter (fun b => decide (b = a)) = [a] by decide) a
  let w : State := { s with part := .quiescing, reports := [], admin := admin }
  have broken : brokenReports w a = [] := brokenReports_eq_nil fun b hb => (h b hb).2
  have live : w.live = true := by
    have := (live_iff.mp hl).1
    exact live_iff.mpr ⟨this, nofun⟩
  have taken : takeReports (disabling s admin) = trippedAt a .hostDisable w := by
    have tripped : takeReport ⟨a, .hostDisable⟩ w = trippedAt a .hostDisable w := by
      rw [takeReport_of_active (r := ⟨a, .hostDisable⟩) live ha, tripAxis_eq]
    have quiet : (trippedAt a .hostDisable w).reports = [] := by
      rw [reports_trippedAt, broken]
      rfl
    unfold takeReports disabling
    rw [one]
    show takeReportsUpTo 32 (takeReport ⟨a, .hostDisable⟩ w) = _
    rw [tripped, takeReportsUpTo_of_none _ quiet]
  have whole := trippedAt_frame a .hostDisable w s.reports none
  rw [broken, List.append_nil] at whole
  rw [disablePart_eq, taken]
  exact whole.symm

theorem disabling_begins {s : State} (admin : AdminUnit) (hl : s.live = true) :
    Disabling s (disabling s admin) := by
  have low := (live_iff.mp hl).1
  refine ⟨live_iff.mpr ⟨low, nofun⟩, rfl, fun r hr => ?_, fun a ha => .inl ⟨ha, ?_⟩, fun a ha harr => ?_⟩
  · obtain ⟨b, _, rfl⟩ := List.mem_map.mp hr
    exact .inl rfl
  · exact List.mem_map.mpr ⟨a, List.mem_filter.mpr ⟨mem_axisIds a, ha⟩, rfl⟩
  · refine ⟨rfl, fun r hr => ?_, harr⟩
    obtain ⟨b, hb, rfl⟩ := List.mem_map.mp hr
    rintro rfl
    rw [(List.mem_filter.mp hb).2] at ha
    cases ha

/-- Settles O8: with no axis active, or one, the trips are written out; with several each is an invariant of the
reports as they are taken, of which a group adds at most one for each axis. -/
theorem clearEnableQuiesces : Obligations.ClearEnableQuiesces := by
  intro s restart hl hs
  refine ⟨fun h => ?_, fun hp a ha hothers => ?_, fun hp => ?_⟩
  · by_cases hp : s.part = .running
    · have none_active := h.resolve_right (not_not_intro hp)
      rw [if_pos hp, exec_clearEnable restart hl hp, disablePart_of_none_active _ none_active]
      exact next_of_quiescing rfl rfl rfl
    · refine next_of_settle (u := writeCtrl false false restart s) rfl ?_ ?_ <;> rw [if_neg hp]
      · exact hs
      · rw [writeCtrl_of_live hl, if_neg fun h => Bool.false_ne_true h.1, if_neg fun h => hp h.2]
        rfl
  · rw [exec_clearEnable restart hl hp, disablePart_of_one_active _ hl ha hothers]
    have part : (trippedAt a .hostDisable (quiescing s (restarted s.admin restart))).part = .quiescing := by
      rw [← tripAxis_eq, (AxisSide.tripAxis _ _ _).part]
      rfl
    have reservations : (trippedAt a .hostDisable (quiescing s (restarted s.admin restart))).comp.reservations =
        s.comp.reservations :=
      handedOver_reservations (s := (quiescing s (restarted s.admin restart)).setAxis a _) _
        (show PartState.quiescing ≠ .failed by decide)
    refine next_of_quiescing rfl part ?_
    rw [reservations]
    rfl
  · rw [exec_clearEnable restart hl hp]
    obtain ⟨ends, quiet⟩ := takeReportsUpTo_takes_all (P := Disabling s) _ _ (reportsLeft_le _)
      (disabling_begins (restarted s.admin restart) hl) fun u r rest n h hr => h.taken n hr
    have frame := AxisSide.takeReports (disabling s (restarted s.admin restart))
    have part : (disablePart { s with admin := restarted s.admin restart }).part = .quiescing := frame.part
    obtain ⟨t, ht, settles⟩ := next_of_quiescing
      (o := .next (settle (disablePart { s with admin := restarted s.admin restart }))) rfl part rfl
    have frames : t.meas = (disablePart { s with admin := restarted s.admin restart }).meas ∧
        t.reports = s.reports ∧ t.axes = (takeReports (disabling s (restarted s.admin restart))).axes ∧
        (t.part = .quiescing ∨ t.part = .disabled) := by
      rw [settles.frame]
      split
      · exact ⟨rfl, rfl, rfl, .inr rfl⟩
      · exact ⟨rfl, rfl, rfl, .inl part⟩
    obtain ⟨meas, reports, axes, parts⟩ := frames
    refine ⟨t, ht, parts, by rw [meas]; rfl, reports, fun a ha => ?_, fun a ha harr => ?_⟩
    · rw [TrippedBy, axis_congr axes]
      rcases ends.disables a ha with ⟨_, flight⟩ | ⟨tripped, r, hr, hts, hfirst⟩
      · exact absurd flight (by rw [quiet]; exact List.not_mem_nil)
      · refine ⟨tripped, r, hr, hts, hfirst.imp id fun ⟨hf, hl⟩ => ⟨hf, hl.resolve_right ?_⟩⟩
        rw [quiet]
        exact List.not_mem_nil
    · rw [axis_congr axes]
      exact (ends.others a ha harr).1

end Sys2Proof.Machine
end

section
/-! The inputs (chapter 6) and the register window (chapter 11). -/

namespace Sys2Proof.Machine

/-! ### The input levels (R102 to R105) -/

/-- A report taken leaves the part state, the channels and the reservations, so that no end of a quiesce or of
RESETTING falls due by it. -/
theorem reservations_reportTaken {s : State} (a : AxisId) (c : TripCause) (hp : s.part ≠ .failed) :
    (reportTaken a c s).comp.reservations = s.comp.reservations := by
  unfold reportTaken
  dsimp only
  split
  · rfl
  · split
    · rfl
    · exact handedOver_reservations (s := s.setAxis a _) _ hp

theorem steady_reportTaken {s : State} (a : AxisId) (c : TripCause) (h : Steady s) : Steady (reportTaken a c s) := by
  have frame : AxisSide s (reportTaken a c s) := by
    rw [← takeReport_eq ⟨a, c⟩]
    exact AxisSide.takeReport s ⟨a, c⟩
  unfold Steady
  rw [frame.part, frame.readTxn, frame.writeTxn]
  refine ⟨fun hp => ?_, h.2⟩
  rw [reservations_reportTaken a c (by rw [hp]; decide)]
  exact h.1 hp

theorem takeInFlight_of_none {s : State} {p : Report → Bool} (h : s.reports.filter p = []) : takeInFlight p s = s := by
  unfold takeInFlight
  rw [h]
  rfl

theorem takeInFlight_of_one {s : State} {p : Report → Bool} {r : Report} (h : s.reports.filter p = [r])
    (hl : s.live = true) :
    takeInFlight p s = reportTaken r.axis r.cause { s with reports := s.reports.erase r } := by
  unfold takeInFlight
  rw [h, ← takeAxisReport_of_live r hl]
  exact takeInOrder_singleton _ _ _ _

/-- Settles O14: the report of the pin is taken in its event, and EMERGENCY in flight before the input falls. -/
theorem inputLevels : Obligations.InputLevels := by
  intro s a
  have asked : (fun r : Report => r.cause == .emergency) = fun r => decide (r.cause = .emergency) := rfl
  refine ⟨rfl, fun hs hnone => ?_, fun hs hl hone => ?_, fun hs hp => ?_, fun hs hp => ?_⟩
  · refine next_of_settle (u := emergencyBecomesInactive s) rfl hs ?_
    unfold emergencyBecomesInactive
    rw [takeInFlight_of_none (List.filter_eq_nil_iff.mpr fun r hr => by simpa using hnone r hr)]
  · refine next_of_settle (u := emergencyBecomesInactive s) rfl ?_ ?_
    · exact steady_reportTaken (s := { s with reports := _ }) a .emergency hs
    · unfold emergencyBecomesInactive
      rw [asked, takeInFlight_of_one hone hl]
  · exact next_of_settle (u := pinBecomesActive a s) rfl hs (if_pos hp)
  · refine next_of_settle (u := pinBecomesActive a s) rfl (steady_reportTaken a .pin hs) ?_
    unfold pinBecomesActive
    rw [hp, if_neg Bool.false_ne_true, takeReport_eq]
    rfl

/-- Settles O15: with the emergency input active every demand is for neither side. -/
theorem emergencyForcesEveryLeg : Obligations.EmergencyForcesEveryLeg := by
  intro s hs
  refine ⟨fun he => next_of_settle (u := emergencyBecomesActive s) rfl hs (if_pos he), fun he => ?_⟩
  obtain ⟨t, ht, settles⟩ := next_of_settle (o := exec .emergencyActive s) (u := emergencyBecomesActive s)
    (s := { s with
        emergency := true
        reports := if s.live = true then
          s.reports ++ [⟨0, .emergency⟩, ⟨1, .emergency⟩, ⟨2, .emergency⟩, ⟨3, .emergency⟩]
          else s.reports }) rfl hs (by
      unfold emergencyBecomesActive
      rw [he, if_neg Bool.false_ne_true]
      by_cases hl : s.live = true
      · rw [if_pos hl, if_pos hl]
        rfl
      · rw [if_neg hl, if_neg hl])
  refine ⟨t, ht, fun a l => ?_, settles⟩
  have active : t.emergency = true := by rw [settles.frame]
  have neither : legDemand t a l = .neither := by
    unfold legDemand
    rw [active]
    rfl
  have follows : ((s.gate a l).follow .neither).demand = .neither := by
    unfold Gate.follow
    split
    · next h => exact h
    · rfl
  rw [settles.gates a l, neither]
  exact follows

/-! ### The register window (R189, R190, Tables 12-8 and 12-9) -/

theorem getLsbD_fieldAt (p v i : Nat) :
    (fieldAt p v).getLsbD i = (decide (i < 32) && decide (p ≤ i) && v.testBit (i - p)) := by
  rw [fieldAt, BitVec.getLsbD_shiftLeft, BitVec.getLsbD_ofNat]
  by_cases h1 : i < 32 <;> by_cases h2 : p ≤ i
  · have : i - p < 32 := by omega
    simp [h1, h2, this, Nat.not_lt.mpr h2]
  · simp [h1, h2, Nat.lt_of_not_le h2]
  · simp [h1]
  · simp [h1]

theorem fieldAt_zero (v : Nat) : fieldAt 0 v = BitVec.ofNat 32 v := by simp [fieldAt]

/-- A field that begins above the bits read shows nothing in them. -/
theorem extract_fieldAt_above {p n q : Nat} (v : Nat) (h : p + n ≤ q) : (fieldAt q v).extractLsb' p n = 0#n := by
  refine BitVec.eq_of_getLsbD_eq fun i hi => ?_
  have : ¬ q ≤ p + i := by omega
  simp [BitVec.getLsbD_extractLsb', getLsbD_fieldAt, this]

/-- A field that ends below the bits read shows nothing in them. -/
theorem extract_fieldAt_below {p n q v k : Nat} (hv : v < 2 ^ k) (h : q + k ≤ p) :
    (fieldAt q v).extractLsb' p n = 0#n := by
  refine BitVec.eq_of_getLsbD_eq fun i hi => ?_
  have : v.testBit (p + i - q) = false :=
    Nat.testBit_lt_two_pow (hv.trans_le (Nat.pow_le_pow_right (by decide) (by omega)))
  simp [BitVec.getLsbD_extractLsb', getLsbD_fieldAt, this]

/-- The bits of a field read it. -/
theorem extract_fieldAt_self {p n v : Nat} (h : p + n ≤ 32) : (fieldAt p v).extractLsb' p n = BitVec.ofNat n v := by
  refine BitVec.eq_of_getLsbD_eq fun i hi => ?_
  rw [BitVec.getLsbD_extractLsb', getLsbD_fieldAt, BitVec.getLsbD_ofNat]
  have : p + i < 32 := by omega
  simp [hi, this]

theorem PartState.code_lt (p : PartState) : p.code < 2 ^ 4 := by cases p <;> decide
theorem AdminState.code_lt (p : AdminState) : p.code < 2 ^ 2 := by cases p <;> decide
theorem HaltReason.code_lt (p : HaltReason) : p.code < 2 ^ 2 := by cases p <;> decide
theorem AxisState.code_lt (p : AxisState) : p.code < 2 ^ 3 := by cases p <;> decide
theorem toNat_lt_two_pow_one (b : Bool) : b.toNat < 2 ^ 1 := by cases b <;> decide

/-- A field of a register word. -/
structure WordField where
  position : Nat
  width : Nat
  value : Nat

/-- The word of several fields. -/
def packed (l : List WordField) : Word := l.foldr (fun f w => fieldAt f.position f.value ||| w) 0#32

/-- The field fits its bits of the word. -/
def WordField.Fits (f : WordField) : Prop := f.value < 2 ^ f.width ∧ f.position + f.width ≤ 32

/-- The field has no bit in common with n bits from p on. -/
def WordField.Apart (f : WordField) (p n : Nat) : Prop := f.position + f.width ≤ p ∨ p + n ≤ f.position

/-- Bits that no field has read 0. -/
theorem extract_packed_apart {l : List WordField} {p n : Nat} (hfit : ∀ f ∈ l, f.Fits)
    (h : ∀ f ∈ l, f.Apart p n) : (packed l).extractLsb' p n = 0#n := by
  induction l with
  | nil => exact BitVec.eq_of_getLsbD_eq fun i hi => by simp [packed]
  | cons f l ih =>
    have here : (fieldAt f.position f.value).extractLsb' p n = 0#n := by
      rcases h f List.mem_cons_self with below | above
      · exact extract_fieldAt_below (hfit f List.mem_cons_self).1 below
      · exact extract_fieldAt_above _ above
    have rest := ih (fun g hg => hfit g (List.mem_cons_of_mem f hg)) fun g hg => h g (List.mem_cons_of_mem f hg)
    show (fieldAt f.position f.value ||| packed l).extractLsb' p n = _
    rw [BitVec.extractLsb'_or, here, rest, BitVec.or_self]

/-- Each of fields that do not overlap reads its value. -/
theorem extract_packed {l : List WordField} (hfit : ∀ f ∈ l, f.Fits)
    (hp : l.Pairwise fun f g => f.Apart g.position g.width) {f : WordField} (hf : f ∈ l) :
    ((packed l).extractLsb' f.position f.width).toNat = f.value := by
  suffices h : (packed l).extractLsb' f.position f.width = BitVec.ofNat f.width f.value by
    rw [h, BitVec.toNat_ofNat, Nat.mod_eq_of_lt (hfit f hf).1]
  induction l with
  | nil => cases hf
  | cons g l ih =>
    obtain ⟨apart, pairs⟩ := List.pairwise_cons.mp hp
    have fits : ∀ k ∈ l, k.Fits := fun k hk => hfit k (List.mem_cons_of_mem g hk)
    show (fieldAt g.position g.value ||| packed l).extractLsb' f.position f.width = _
    rw [BitVec.extractLsb'_or]
    rcases List.mem_cons.mp hf with rfl | hf
    · rw [extract_fieldAt_self (hfit f List.mem_cons_self).2,
        extract_packed_apart fits fun k hk => (apart k hk).symm, BitVec.or_zero]
    · have here : (fieldAt g.position g.value).extractLsb' f.position f.width = 0#f.width := by
        rcases apart f hf with below | above
        · exact extract_fieldAt_below (hfit g List.mem_cons_self).1 below
        · exact extract_fieldAt_above _ above
      rw [here, ih fits pairs hf, BitVec.zero_or]

/-- The fields of STAT (Table 12-9). -/
def statFields (s : State) : List WordField :=
  [⟨0, 4, s.part.code⟩, ⟨4, 2, s.admin.state.code⟩, ⟨6, 2, s.admin.haltReason.code⟩] ++
    (axisIds.flatMap fun a =>
      [⟨8 + 3 * a.val, 3, (s.axis a).state.code⟩, ⟨20 + a.val, 1, (s.axis a).pinActive.toNat⟩]) ++
    [⟨24, 1, s.emergency.toNat⟩, ⟨25, 1, s.ovFlag.toNat⟩, ⟨26, 1, s.uvFlag.toNat⟩]

theorem stat_eq (s : State) : s.stat = packed (statFields s) := by
  simp [State.stat, packed, statFields, axisIds, BitVec.or_assoc]

theorem statFields_fit (s : State) : ∀ f ∈ statFields s, f.Fits := by
  simp only [statFields, axisIds, List.forall_mem_append, List.forall_mem_cons, List.flatMap_cons, List.flatMap_nil,
    WordField.Fits, PartState.code_lt, AdminState.code_lt, HaltReason.code_lt, AxisState.code_lt,
    toNat_lt_two_pow_one, true_and]
  simp

theorem statFields_apart (s : State) : (statFields s).Pairwise fun f g => f.Apart g.position g.width := by
  simp [statFields, axisIds, WordField.Apart]

/-- A one-bit field of STAT. -/
theorem getLsbD_stat {s : State} {p : Nat} {b : Bool} (h : ⟨p, 1, b.toNat⟩ ∈ statFields s) :
    s.stat.getLsbD p = b := by
  have bit := extract_packed (statFields_fit s) (statFields_apart s) h
  rw [← stat_eq] at bit
  have lowest : ((s.stat.extractLsb' p 1).toNat).testBit 0 = b.toNat.testBit 0 := congrArg (·.testBit 0) bit
  rw [BitVec.testBit_toNat, BitVec.getLsbD_extractLsb'] at lowest
  cases b <;> simpa using lowest

/-- What STAT reads (Table 12-9). -/
theorem stat_reads (s : State) :
    (s.stat.extractLsb' 0 4).toNat = s.part.code ∧ (s.stat.extractLsb' 4 2).toNat = s.admin.state.code ∧
      (s.stat.extractLsb' 6 2).toNat = s.admin.haltReason.code ∧
      (∀ a : AxisId, (s.stat.extractLsb' (8 + 3 * a.val) 3).toNat = (s.axis a).state.code ∧
        s.stat.getLsbD (20 + a.val) = (s.axis a).pinActive) ∧
      s.stat.getLsbD 24 = s.emergency ∧ s.stat.getLsbD 25 = s.ovFlag ∧ s.stat.getLsbD 26 = s.uvFlag ∧
      s.stat.extractLsb' 27 5 = 0 := by
  have field : ∀ f ∈ statFields s, (s.stat.extractLsb' f.position f.width).toNat = f.value := fun f hf => by
    rw [stat_eq]
    exact extract_packed (statFields_fit s) (statFields_apart s) hf
  have axis : ∀ a, ∀ f ∈ [⟨8 + 3 * a.val, 3, (s.axis a).state.code⟩, ⟨20 + a.val, 1, (s.axis a).pinActive.toNat⟩],
      f ∈ statFields s := fun a f hf =>
    List.mem_append_left _ (List.mem_append_right _ (List.mem_flatMap.mpr ⟨a, mem_axisIds a, hf⟩))
  refine ⟨field ⟨0, 4, s.part.code⟩ ?_, field ⟨4, 2, s.admin.state.code⟩ ?_,
    field ⟨6, 2, s.admin.haltReason.code⟩ ?_,
    fun a => ⟨field ⟨8 + 3 * a.val, 3, (s.axis a).state.code⟩ (axis a _ ?_), getLsbD_stat (axis a _ ?_)⟩,
    getLsbD_stat ?_, getLsbD_stat ?_, getLsbD_stat ?_, ?_⟩
  · simp [statFields]
  · simp [statFields]
  · simp [statFields]
  · simp
  · simp
  · simp [statFields]
  · simp [statFields]
  · simp [statFields]
  · rw [stat_eq]
    refine extract_packed_apart (statFields_fit s) ?_
    simp [statFields, axisIds, WordField.Apart]

/-- What ADMRING reads (Table 12-8). -/
theorem admring_reads {s : State} {code : Nat} (h : (code = 0 ∧ s.admin.ringSize = 0) ∨
    (2 ≤ code ∧ code ≤ 12 ∧ s.admin.ringSize = 2 ^ code)) (w : Word)
    (hw : w = s.admin.ringBase ||| fieldAt 0 (admringCode s.admin.ringSize)) :
    w.extractLsb' 6 26 = s.admin.ringBase.extractLsb' 6 26 ∧
      (s.admin.ringBase.toNat % 64 = 0 → (w.extractLsb' 0 6).toNat = code) := by
  have reads : admringCode s.admin.ringSize = code ∧ code < 2 ^ 6 := by
    rcases h with ⟨rfl, hz⟩ | ⟨h2, h12, hp⟩
    · exact ⟨by rw [hz]; rfl, by decide⟩
    · refine ⟨?_, by omega⟩
      rw [hp, admringCode, if_neg (by positivity), Nat.log2_two_pow]
  rw [reads.1] at hw
  subst hw
  rw [BitVec.extractLsb'_or, BitVec.extractLsb'_or, extract_fieldAt_below reads.2 (by decide),
    extract_fieldAt_self (by decide)]
  refine ⟨BitVec.or_zero, fun hb => ?_⟩
  have base : s.admin.ringBase.extractLsb' 0 6 = 0#6 := by
    apply BitVec.eq_of_toNat_eq
    rw [BitVec.extractLsb'_toNat]
    simpa using hb
  rw [base, BitVec.zero_or, BitVec.toNat_ofNat, Nat.mod_eq_of_lt reads.2]

/-- Under reset every register reads 0 (R189). -/
theorem readAccess_of_low {s : State} (h : s.resetLow = true) (offset : BitVec 6) (width : AccessWidth) :
    readAccess s offset width = 0 := by
  have zero : readWindow s offset = 0 := if_pos h
  rw [readAccess, zero]
  cases width <;> simp [addressedBytes]

/-- A narrower read returns its bytes of the register that contains them (R189). -/
theorem readAccess_narrow (s : State) (offset : BitVec 6) :
    (readAccess s offset .byte).toNat =
        (readWindow s (offset &&& 0x3C#6)).toNat / 2 ^ (8 * (offset.toNat % 4)) % 2 ^ 8 ∧
      (readAccess s offset .half).toNat =
        (readWindow s (offset &&& 0x3C#6)).toNat / 2 ^ (8 * (offset.toNat % 4)) % 2 ^ 16 := by
  have place : (offset &&& 0x3C#6).toNat / 4 = offset.toNat / 4 ∧ (offset.extractLsb' 0 2).toNat = offset.toNat % 4 := by
    revert offset; decide
  have register : readWindow s (offset &&& 0x3C#6) = readWindow s offset := by
    unfold readWindow
    rw [place.1]
  have low8 : ∀ n, n &&& 255 = n % 2 ^ 8 := fun n => Nat.and_two_pow_sub_one_eq_mod n 8
  have low16 : ∀ n, n &&& 65535 = n % 2 ^ 16 := fun n => Nat.and_two_pow_sub_one_eq_mod n 16
  rw [register]
  unfold readAccess addressedBytes
  constructor
  · rw [BitVec.toNat_and, BitVec.toNat_ushiftRight, Nat.shiftRight_eq_div_pow, place.2]
    exact low8 _
  · rw [BitVec.toNat_and, BitVec.toNat_ushiftRight, Nat.shiftRight_eq_div_pow, place.2]
    exact low16 _

/-- Offsets past the last register read 0 (Table 12-8). -/
theorem readWindow_past {s : State} {offset : BitVec 6} (h : 0x34#6 ≤ offset) : readWindow s offset = 0 := by
  have past : offset.toNat / 4 = 13 ∨ offset.toNat / 4 = 14 ∨ offset.toNat / 4 = 15 := by
    have : 52 ≤ offset.toNat := h
    omega
  unfold readWindow
  split
  · rfl
  · rcases past with e | e | e <;> rw [e] <;> rfl

/-- Settles O13: the rows of the table of registers one by one, STAT as a word of fields. -/
theorem faultSummaryReadAndIgnoredWrites : Obligations.FaultSummaryReadAndIgnoredWrites := by
  intro s offset narrow
  refine ⟨fun hr => readAccess_of_low hr offset, fun hr => ?_, fun lane width => rfl, fun value hl => ?_, fun hl => ?_,
    fun hl hs value ring x y c hc => ?_⟩
  · have reads : ∀ {o : BitVec 6} {w : Word}, (if s.resetLow = true then 0 else w) = readWindow s o →
        readWindow s o = w := by
      intro o w h
      rw [← h, hr]
      rfl
    refine ⟨reads rfl, ?_, ?_, fun code h => ?_, fun a => ?_, ?_, ?_, ?_, ?_, ?_,
      readWindow_past, rfl, readAccess_narrow s offset⟩
    · rw [reads (w := fieldAt 0 (s.part == .running).toNat) rfl]
      by_cases hp : s.part = .running
      · rw [if_pos hp, hp]; rfl
      · rw [if_neg hp, beq_eq_false_iff_ne.mpr hp]; rfl
    · rw [reads (w := s.stat) rfl]
      exact stat_reads s
    · exact admring_reads h _ (reads rfl)
    · have register : readWindow s (0x10 + 4 * BitVec.ofNat 6 a.val) = fieldAt 0 (s.axis a).producer := by
        fin_cases a <;> exact reads rfl
      rw [register, fieldAt_zero]
    · rw [reads (w := fieldAt 0 s.admin.producer) rfl, fieldAt_zero]
    · rw [reads (w := fieldAt 0 s.comp.consumer) rfl, fieldAt_zero]
    · rw [reads (w := s.icause.setWidth 32) rfl, BitVec.ofNat_toNat]
    · rw [reads (w := s.imask.setWidth 32) rfl, BitVec.ofNat_toNat]
    · rw [reads (w := s.fsum.setWidth 32) rfl, BitVec.ofNat_toNat]
  · refine ⟨_, rfl, by rw [writeIcause_eq], fun i hi => ?_⟩
    simp [writeIcause, hl, hi]
  · show Host.Outcome.next (ignoreWrite s) = _
    rw [ignoreWrite, hl, if_pos rfl, recordFault_eq]
    rfl
  · have settled : ∀ {o : Host.Outcome State Fault Refusal} {u : State}, o = .next (settle u) → u = s →
        ∃ t, o = .next t ∧ (t = s ∨ Settles s t) := by
      intro o u ho hu
      obtain ⟨t, ht, h⟩ := next_of_settle ho hs hu
      exact ⟨t, ht, .inr h⟩
    have ignored : ∀ {u : State}, (if (!s.live) = true then s else u) = s := if_pos (by rw [hl]; rfl)
    have unchanged : ∀ {u : State}, (if s.live = true then u else s) = s := if_neg (by rw [hl]; decide)
    simp only [List.mem_cons, List.not_mem_nil, or_false] at hc
    rcases hc with rfl | rfl | rfl | rfl | rfl | rfl | rfl | rfl | rfl | rfl
    · exact settled rfl ignored
    · exact settled rfl ignored
    · exact settled rfl ignored
    · exact settled rfl ignored
    · exact settled rfl ignored
    · exact settled rfl ignored
    · exact settled rfl ignored
    · exact ⟨_, rfl, .inl unchanged⟩
    · exact ⟨_, rfl, .inl unchanged⟩
    · exact ⟨_, rfl, .inl unchanged⟩

end Sys2Proof.Machine
end

section
/-! The administrative commands handed over by a read's return (chapter 10). -/

namespace Sys2Proof.Machine

/-! ### A command accepted and ended (R172 to R174) -/

section
variable {s s' : State} {c : AdminCommand} {o : Host.Outcome State Fault Refusal} {tag : Half} {status : Status}
  {detail : Detail} {result : AdminResult}

/-- An accepted command's completion on a configured ring, and the end of its execution. -/
theorem finishCommand_accepted (hr : s'.comp.ringSize ≠ 0) (hp : s'.part = .running) :
    finishCommand tag status detail result (acceptedState s' c) =
      afterCommand s' ⟨tag, .admin, status, detail, .admin result⟩ := by
  have part : (acceptedState s' c).part ≠ .failed := by
    show s'.part ≠ _
    rw [hp]
    decide
  rw [finishCommand_of_ring (s := acceptedState s' c) tag status detail result hr part]
  rfl

/-- A command accepted in RUNNING that ends with a completion, its effect on the rest of the part being s'. -/
theorem answers (h : CommandReturns s) (ho : o = .next (settle (takeCommand c s)))
    (hr : s'.comp.ringSize ≠ 0) (hp : s'.part = .running)
    (e : runCommand c (acceptedState s c) = finishCommand tag status detail result (acceptedState s' c)) :
    ∃ t, o = .next t ∧ Settles (afterCommand s' ⟨tag, .admin, status, detail, .admin result⟩) t := by
  refine next_of_settle ho (steady_of_running hp) ?_
  rw [takeCommand_of_returns h, e, finishCommand_accepted hr hp]

/-- A command that leaves the rest of the part as it was. -/
theorem answers_unchanged (h : CommandReturns s) (ho : o = .next (settle (takeCommand c s)))
    (e : runCommand c (acceptedState s c) = finishCommand tag status detail result (acceptedState s c)) :
    ∃ t, o = .next t ∧ Settles (afterCommand s ⟨tag, .admin, status, detail, .admin result⟩) t := by
  obtain ⟨_, running, ring, _⟩ := id h
  exact answers h ho ring running e

/-- A command that changes an axis alone. -/
theorem answers_setAxis {a : AxisId} {x : Axis} (h : CommandReturns s) (ho : o = .next (settle (takeCommand c s)))
    (e : runCommand c (acceptedState s c) =
      finishCommand tag status detail result ((acceptedState s c).setAxis a x)) :
    ∃ t, o = .next t ∧ Settles (afterCommand (s.setAxis a x) ⟨tag, .admin, status, detail, .admin result⟩) t := by
  obtain ⟨_, running, ring, _⟩ := id h
  exact answers (s' := s.setAxis a x) h ho ring running e

end

/-! ### SET_GLOBAL (R180) -/

theorem globalsOk_iff (k f : Byte) (ov uv : Half) : globalsOk k f ov uv = true ↔
    1 ≤ k.toNat ∧ 1 ≤ f.toNat ∧ f.toNat ≤ 8 ∧ ov.toNat ≤ 4095 ∧ uv.toNat ≤ 4095 := by
  have pos : ∀ b : Byte, b ≠ 0 ↔ 1 ≤ b.toNat := by decide
  simp only [globalsOk, Bool.and_eq_true, bne_iff_ne, decide_eq_true_eq, pos, and_assoc]

/-- Settles O17: the range check is the statement's. -/
theorem setGlobalReplacesSettings : Obligations.SetGlobalReplacesSettings := by
  intro s tag rt wt k f w ov uv h valid
  obtain ⟨_, running, ring, _⟩ := id h
  refine ⟨fun hv => answers_unchanged h rfl ?_, fun hv => answers h rfl ring running ?_⟩
  · show runSetGlobal tag rt wt k f w ov uv _ = _
    have bad : globalsOk k f ov uv = false := Bool.eq_false_iff.mpr fun e => hv ((globalsOk_iff k f ov uv).mp e)
    rw [runSetGlobal, bad]
    rfl
  · show runSetGlobal tag rt wt k f w ov uv _ = _
    rw [runSetGlobal, (globalsOk_iff k f ov uv).mpr hv]
    rfl

/-! ### The commands that may wait for a read: SET_AXIS_RING, START_AXIS, CLEAR_FAULT (R149) -/

section
variable {axis : Byte} {a : AxisId} (ha : axis.toNat = a.val) (tag : Half) (s : State)
include ha

/-- SET_AXIS_RING for an axis of the part (R179). -/
theorem runSetAxisRing_eq (base : Word) (size : Half) : runSetAxisRing tag axis base size s =
    ended (waitedCommand ⟨tag, .setAxisRing axis base size⟩ a s).1
      (waitedCommand ⟨tag, .setAxisRing axis base size⟩ a s).2 := by
  unfold runSetAxisRing waitedCommand
  rw [axisOfByte_of_eq ha]
  dsimp only
  by_cases hv : RingArguments base size
  · rw [(ringArguments_iff base size).mpr hv, if_neg (not_not_intro hv)]
    by_cases hf : (s.axis a).state ≠ .idle ∨ (s.axis a).fifo ≠ []
    · have busy : ((s.axis a).state == .idle && (s.axis a).fifo.isEmpty) = false := by
        simpa [← not_and_or] using hf
      rw [if_pos hf, busy]
      rfl
    · have free : ((s.axis a).state == .idle && (s.axis a).fifo.isEmpty) = true := by
        simpa [← not_and_or] using hf
      rw [if_neg hf, free]
      rfl
  · rw [Bool.eq_false_iff.mpr fun e => hv ((ringArguments_iff base size).mp e), if_pos hv]
    rfl

omit ha in
theorem startRefusal_eq : startRefusal s a = startRefused s a := by
  unfold startRefusal startRefused
  by_cases h : s.part = .running ∧ (s.axis a).state = .idle
  · simp [h]
  · have : s.part ≠ .running ∨ (s.axis a).state ≠ .idle := by tauto
    simp only [if_pos h, if_pos this]

omit ha in
theorem dropReports_start : dropReports a (s.modAxis a (·.start)) = startedAt a s := by
  have others : (fun r : Report => r.axis != a) = fun r => decide (r.axis ≠ a) := by
    funext r
    by_cases h : r.axis = a <;> simp [h]
  unfold dropReports startedAt
  rw [others]
  rfl

omit ha in
/-- In RUNNING the axis's state alone can be wrong for a START_AXIS. -/
theorem startRefused_of_running (hp : s.part = .running) : startRefused s a =
    (if (s.axis a).state ≠ .idle then some .wrongState
      else if (s.axis a).configured = false then some .notConfigured
      else if (s.axis a).ringSize = 0 then some .noRing
      else if (s.axis a).pinActive = true then some .tripActive
      else if s.emergency = true then some .emergencyActive
      else if s.ovFlag = true ∨ s.uvFlag = true then some .busFault
      else none) := by
  unfold startRefused
  simp only [hp, ne_eq, not_true_eq_false, false_or]

omit ha in
theorem ringSize_ne_zero_of_startRefused (h : startRefused s a = none) : (s.axis a).ringSize ≠ 0 := by
  intro hz
  unfold startRefused at h
  dsimp only at h
  split_ifs at h

/-- START_AXIS for an axis of the part (R182). -/
theorem runStartAxis_eq : runStartAxis tag axis s =
    ended (waitedCommand ⟨tag, .startAxis axis⟩ a s).1 (waitedCommand ⟨tag, .startAxis axis⟩ a s).2 := by
  unfold runStartAxis waitedCommand
  rw [axisOfByte_of_eq ha]
  dsimp only
  rw [startRefusal_eq, dropReports_start]
  cases startRefused s a with
  | none => rfl
  | some reason => rfl

omit ha in
/-- Only a TRIPPED axis is cleared (R110). -/
theorem tripped_of_clearRefused (h : clearRefused s a = none) : (s.axis a).state = .tripped := by
  by_contra hn
  rw [clearRefused, if_pos hn] at h
  cases h

/-- CLEAR_FAULT for an axis of the part that has a trip record if it can be cleared (R99, R185). -/
theorem runClearFault_eq (disposition : Byte) (hr : clearRefused s a = none → (s.axis a).tripRecord ≠ none) :
    runClearFault tag axis disposition s =
      ended (waitedCommand ⟨tag, .clearFault axis disposition⟩ a s).1
        (waitedCommand ⟨tag, .clearFault axis disposition⟩ a s).2 := by
  unfold runClearFault waitedCommand
  rw [axisOfByte_of_eq ha]
  dsimp only
  by_cases hd : 2 ≤ disposition.toNat
  · rw [if_pos hd, if_pos (show 1 < _ from hd)]
    rfl
  · rw [if_neg hd, if_neg (show ¬ 1 < _ from hd), show clearRefusal s a = clearRefused s a from rfl]
    rcases hc : clearRefused s a with _ | reason
    · obtain ⟨r, hr⟩ := Option.ne_none_iff_exists'.mp (hr hc)
      rw [hr]
      by_cases hf : disposition = 1
      · subst hf; rfl
      · simp only [clearedAt, hf, beq_eq_false_iff_ne.mpr hf]
        rfl
    · rfl

end

section
variable {s : State} {c : AdminCommand} {o : Host.Outcome State Fault Refusal} {a : AxisId}

/-- A command that may wait, where no read is in flight for it any more. -/
theorem answers_waited {s' : State} {tag : Half} {status : Status} {detail : Detail} {result : AdminResult}
    (h : CommandReturns s) (ho : o = .next (settle (takeCommand c s)))
    (hr : s'.comp.ringSize ≠ 0) (hp : s'.part = .running)
    (e : runCommand c (acceptedState s c) = ended (waitedCommand c a (acceptedState s c)).1
      (waitedCommand c a (acceptedState s c)).2)
    (hw : waitedCommand c a (acceptedState s c) =
      (acceptedState s' c, ⟨tag, .admin, status, detail, .admin result⟩)) :
    ∃ t, o = .next t ∧ Settles (afterCommand s' ⟨tag, .admin, status, detail, .admin result⟩) t := by
  refine answers h ho hr hp (e.trans ?_)
  rw [hw]
  rfl

end

/-- SET_AXIS_RING where an argument is invalid. -/
theorem runSetAxisRing_of_invalid {axis : Byte} {base : Word} {size : Half}
    (hv : 4 ≤ axis.toNat ∨ ¬ RingArguments base size) (tag : Half) (s : State) :
    runSetAxisRing tag axis base size s = badParameter tag s := by
  unfold runSetAxisRing
  rcases hv with hv | hv
  · rw [axisOfByte_of_ge hv]
  · have bad : (ringSizeOk size.toNat && alignedTo64 base) = false :=
      Bool.eq_false_iff.mpr fun e => hv ((ringArguments_iff base size).mp e)
    split
    · rfl
    · rw [bad]; rfl

/-- Settles O18, refusal by refusal: SET_AXIS_RING does not wait in this state, so it answers within the event. -/
theorem setAxisRingEmptiesRing : Obligations.SetAxisRingEmptiesRing := by
  intro s tag axis base size h
  obtain ⟨_, running, ring, _⟩ := id h
  refine ⟨fun hv => answers_unchanged h rfl (runSetAxisRing_of_invalid hv tag _), fun a ha hv => ⟨fun hn => ?_,
    fun hi hf => ?_⟩⟩
  · refine answers_waited h rfl ring running (runSetAxisRing_eq ha tag _ base size) ?_
    exact (if_neg (not_not_intro hv)).trans (if_pos hn)
  · refine answers_waited (s' := s.setAxis a _) h rfl ring running (runSetAxisRing_eq ha tag _ base size) ?_
    exact (if_neg (not_not_intro hv)).trans (if_neg (not_or.mpr ⟨not_not_intro hi, not_not_intro hf⟩))

/-- Settles O20: the refusals are those of `startRefused`, and an axis that none refuses is `startedAt`. -/
theorem startAxisEntersPrecharge : Obligations.StartAxisEntersPrecharge := by
  intro s tag axis h
  obtain ⟨_, running, ring, _⟩ := id h
  refine ⟨fun hv => answers_unchanged h rfl ?_, fun a ha => ⟨fun reason hr => ?_, fun hr => ?_⟩⟩
  · show runStartAxis tag axis _ = _
    rw [runStartAxis, axisOfByte_of_ge hv]
    rfl
  · refine answers_waited h rfl ring running (runStartAxis_eq ha tag _) ?_
    have refused := (startRefused_of_running (a := a) (acceptedState s ⟨tag, .startAxis axis⟩) running).trans hr
    simp only [waitedCommand, refused]
    rfl
  · refine answers_waited (s' := startedAt a s) h rfl ring running (runStartAxis_eq ha tag _) ?_
    have refused := (startRefused_of_running (a := a) (acceptedState s ⟨tag, .startAxis axis⟩) running).trans hr
    have holds : (s.axis a).ringHolds =
        ((s.axis a).producer + (s.axis a).ringSize - (s.axis a).consumer) % (s.axis a).ringSize :=
      if_neg (ringSize_ne_zero_of_startRefused _ refused)
    simp only [waitedCommand, refused]
    rw [← holds]
    rfl

/-- Settles O23: the refusals are those of `clearRefused`; with none, the trip record goes into the completion. -/
theorem clearFaultReturnsTripRecord : Obligations.ClearFaultReturnsTripRecord := by
  intro s tag axis disposition h
  obtain ⟨_, running, ring, _⟩ := id h
  refine ⟨fun hv => answers_unchanged h rfl ?_, fun a ha hd => ⟨fun reason hr => ?_, fun r hr htrip => ?_⟩⟩
  · show runClearFault tag axis disposition _ = badParameter tag _
    unfold runClearFault
    rcases hv with hv | hv
    · rw [axisOfByte_of_ge hv]
    · split
      · rfl
      · exact if_pos hv
  · refine answers_waited h rfl ring running (runClearFault_eq ha tag _ disposition ?_) ?_
    · exact fun hn => absurd (hn.symm.trans hr) nofun
    · have refused : clearRefused (acceptedState s ⟨tag, .clearFault axis disposition⟩) a = some reason := hr
      simp only [waitedCommand, refused, if_neg (Nat.not_le.mpr (Nat.lt_succ_of_le hd))]
      rfl
  · refine answers_waited (s' := s.setAxis a _) h rfl ring running (runClearFault_eq ha tag _ disposition ?_) ?_
    · exact fun _ => ne_of_eq_of_ne htrip nofun
    · have refused : clearRefused (acceptedState s ⟨tag, .clearFault axis disposition⟩) a = none := hr
      have record : ((acceptedState s ⟨tag, .clearFault axis disposition⟩).axis a).tripRecord = some r := htrip
      simp only [waitedCommand, refused, record, if_neg (Nat.not_le.mpr (Nat.lt_succ_of_le hd))]
      rfl

/-! ### CONFIGURE_AXIS (R181) -/

section
variable {axis d m r : Byte} {h tBoot np g limit : Half} {n pattern : Byte}

/-- The arguments of CONFIGURE_AXIS are in range and their combination is legal (R62, R181). -/
def ConfigArguments (d m r : Byte) (h tBoot np limit : Half) (n pattern : Byte) : Prop :=
  64 ≤ h.toNat ∧ h.toNat ≤ 32767 ∧ tBoot.toNat ≤ 4095 ∧ d.toNat + m.toNat < h.toNat ∧
    (tBoot.toNat = 0 ∨ (m.toNat ≤ tBoot.toNat ∧ tBoot.toNat + d.toNat ≤ 2 * h.toNat)) ∧
    1 ≤ r.toNat ∧ 1 ≤ np.toNat ∧ 1 ≤ limit.toNat ∧ limit.toNat ≤ 2047 ∧
    1 ≤ n.toNat ∧ n.toNat ≤ 8 ∧ pattern.toNat ≤ 1

/-- The configuration that valid arguments name. -/
def configNamed (d m r : Byte) (h tBoot np g limit : Half) (n pattern : Byte) : AxisConfig :=
  { h := h.toNat, d := d.toNat, m := m.toNat, tBoot := tBoot.toNat, r := r.toNat, np := np.toNat, g := g.toNat
    pattern := if pattern.toNat = 0 then .allOff else .lowOn
    currentLimit := limit.toNat, n := n.toNat }

theorem ne_zero_iff_one_le_toNat {w : Nat} (b : BitVec w) : b ≠ 0 ↔ 1 ≤ b.toNat := by
  rw [Nat.one_le_iff_ne_zero, ne_eq, ne_eq, ← BitVec.toNat_inj]
  rfl

/-- The two range checks of CONFIGURE_AXIS are the conditions of R181. -/
theorem configOf_checks_iff : (periodLegal h.toNat d.toNat m.toNat tBoot.toNat && bootLegal m.toNat tBoot.toNat &&
      r != 0 && np != 0 && limit != 0 && decide (limit.toNat ≤ 2047) &&
      n != 0 && decide (n.toNat ≤ 8) && decide (pattern.toNat ≤ 1)) = true ↔
    ConfigArguments d m r h tBoot np limit n pattern := by
  simp only [periodLegal, bootLegal, ConfigArguments, Bool.and_eq_true, Bool.or_eq_true, bne_iff_ne, decide_eq_true_eq,
    beq_iff_eq, ne_zero_iff_one_le_toNat]
  omega

theorem configOf_of_valid (g : Half) (hv : ConfigArguments d m r h tBoot np limit n pattern) :
    configOf d m r h tBoot np g limit n pattern = some (configNamed d m r h tBoot np g limit n pattern) := by
  have pat : (if pattern = 0 then SafePattern.allOff else .lowOn) = if pattern.toNat = 0 then .allOff else .lowOn := by
    congr 1
    rw [← BitVec.toNat_inj]
    rfl
  rw [configOf, if_pos (configOf_checks_iff.mpr hv), configNamed, pat]

theorem configOf_of_invalid (g : Half) (hv : ¬ ConfigArguments d m r h tBoot np limit n pattern) :
    configOf d m r h tBoot np g limit n pattern = none := by
  rw [configOf, if_neg fun e => hv (configOf_checks_iff.mp e)]

end

/-- Settles O19: `configOf` answers exactly for legal arguments (`configOf_checks_iff`), and the axis must be IDLE. -/
theorem configureAxisReplacesConfiguration : Obligations.ConfigureAxisReplacesConfiguration := by
  intro s tag axis d m r h tBoot np g limit n pattern hr
  refine ⟨fun hv => answers_unchanged hr rfl ?_, fun a ha hv => ⟨fun hn => answers_unchanged hr rfl ?_,
    fun hi => answers_setAxis hr rfl ?_⟩⟩
  · show runConfigureAxis tag axis d m r h tBoot np g limit n pattern _ = badParameter tag _
    unfold runConfigureAxis
    rcases hv with hv | hv
    · rw [axisOfByte_of_ge hv]
    · rw [configOf_of_invalid g hv]
      cases axisOfByte axis <;> rfl
  · show runConfigureAxis tag axis d m r h tBoot np g limit n pattern _ = _
    unfold runConfigureAxis
    rw [axisOfByte_of_eq ha, configOf_of_valid g hv]
    exact if_neg hn
  · show runConfigureAxis tag axis d m r h tBoot np g limit n pattern _ = _
    unfold runConfigureAxis
    rw [axisOfByte_of_eq ha, configOf_of_valid g hv]
    exact if_pos hi

/-! ### DEFINE_GROUP (R91, R92, R186) and READ_AXIS (R187, R188) -/

/-- Settles O24, by the group byte and the timeout, then by whether the group is GATHERING. -/
theorem defineGroupReplacesEntry : Obligations.DefineGroupReplacesEntry := by
  intro s tag group members timeout h
  obtain ⟨_, running, ring, _⟩ := id h
  have zero : timeout = 0 ↔ timeout.toNat = 0 := by
    rw [← BitVec.toNat_inj]
    rfl
  refine ⟨fun hv => answers_unchanged h rfl ?_, fun g hg ht => ⟨fun hb => answers_unchanged h rfl ?_,
    fun hn => answers (s' := s.setGroup g _) h rfl ring running ?_⟩⟩
  · show runDefineGroup tag group members timeout _ = badParameter tag _
    unfold runDefineGroup
    rcases hv with hv | hv
    · rw [groupOfByte_of_ge hv]
    · split
      · rfl
      · exact if_pos (zero.mpr hv)
  · show runDefineGroup tag group members timeout _ = _
    unfold runDefineGroup
    rw [groupOfByte_of_eq hg]
    refine (if_neg fun e => ht (zero.mp e)).trans ((if_pos hb).trans ?_)
    rw [show ((acceptedState s ⟨tag, .defineGroup group members timeout⟩).group g).state = .gathering from hb]
    rfl
  · show runDefineGroup tag group members timeout _ = _
    unfold runDefineGroup
    rw [groupOfByte_of_eq hg]
    exact (if_neg fun e => ht (zero.mp e)).trans (if_neg hn)

/-- Settles O25: a legal READ_AXIS leaves the unit in execution, so only the settling of its event follows. -/
theorem readAxisFormsSnapshot : Obligations.ReadAxisFormsSnapshot := by
  intro s tag axis address h
  obtain ⟨_, running, ring, _⟩ := id h
  refine ⟨fun hv => answers_unchanged h rfl ?_, fun a ha hm => ?_⟩
  · show runReadAxis tag axis address _ = badParameter tag _
    unfold runReadAxis
    rcases hv with hv | hv
    · rw [axisOfByte_of_ge hv]
    · split
      · rfl
      · have bad : alignedTo64 address = false := Bool.eq_false_iff.mpr fun e => hv ((alignedTo64_iff address).mp e)
        rw [bad]
        rfl
  · refine next_of_settle (u := takeCommand ⟨tag, .readAxis axis address⟩ s) rfl (steady_of_running running) ?_
    rw [takeCommand_of_returns h]
    show runReadAxis tag axis address _ = _
    unfold runReadAxis
    rw [axisOfByte_of_eq ha, (alignedTo64_iff address).mpr hm]
    rfl

/-! ### SET_COMPLETION_RING (R163, R176, R178) -/

theorem completionRingFree_iff (s : State) : completionRingFree s = true ↔
    (∀ a, (s.axis a).state = .idle) ∧ s.comp.posted = 0 ∧
      s.comp.reservations = if s.comp.ringSize = 0 then 0 else 1 := by
  have every : ∀ p : AxisId → Prop, (∀ a ∈ axisIds, p a) ↔ ∀ a, p a := fun p =>
    ⟨fun h a => h a (mem_axisIds a), fun h a _ => h a⟩
  simp only [completionRingFree, Bool.and_eq_true, List.all_eq_true, beq_iff_eq, every, and_assoc]

theorem ringSize_ne_zero_of_arguments {base : Word} {size : Half} (h : RingArguments base size) : size.toNat ≠ 0 := by
  intro hz
  have := h.1
  rw [hz] at this
  revert this
  decide

section
variable {s : State} {base : Word} {size : Half} (tag : Half)

/-- The part with its completion ring at the new place, the command's own reservation on it (R163). -/
def ringMoved (s : State) (base : Word) (size : Half) : State :=
  { s with comp := { s.comp with
      ringBase := base, ringSize := size.toNat, producer := 0, consumer := 0, lap := true
      coalescingCount := 0, coalescingTimer := none, reservations := 1 } }

theorem runSetCompletionRing_of_invalid (h : ¬ RingArguments base size) :
    runSetCompletionRing tag base size s = badParameter tag s := by
  have bad := Bool.eq_false_iff.mpr fun e => h ((ringArguments_iff base size).mp e)
  rw [runSetCompletionRing, bad]
  rfl

theorem runSetCompletionRing_of_busy (h : RingArguments base size) (hb : ¬ completionRingFree s = true) :
    runSetCompletionRing tag base size s = refuse tag .ringBusy s := by
  rw [runSetCompletionRing, (ringArguments_iff base size).mpr h, Bool.eq_false_iff.mpr hb]
  rfl

theorem runSetCompletionRing_of_free (h : RingArguments base size) (hf : completionRingFree s = true) :
    runSetCompletionRing tag base size s = finishCommand tag .ok .none .zero (ringMoved s base size) := by
  obtain ⟨_, _, reservations⟩ := (completionRingFree_iff s).mp hf
  have one : (if s.comp.ringSize = 0 then s.comp.reservations else s.comp.reservations - 1) + 1 = 1 := by
    rw [reservations]
    split <;> rfl
  rw [runSetCompletionRing, (ringArguments_iff base size).mpr h, hf, CompletionUnit.moveTo, one]
  rfl

/-- With no completion ring the return of a SET_COMPLETION_RING is taken all the same (R176). -/
theorem takeCommand_of_returns_unconfigured (hl : s.live = true) (hp : s.part = .running)
    (ha : s.admin.state = .fetching) (ho : 0 < s.admin.occupancy)
    (hr : s.readTxn.map (fun t => (t.ring, t.reserved)) = some (RingId.admin, false)) :
    takeCommand ⟨tag, .setCompletionRing base size⟩ s =
      runSetCompletionRing tag base size (acceptedState s ⟨tag, .setCompletionRing base size⟩) := by
  obtain ⟨t, ht, fields⟩ := Option.map_eq_some_iff.mp hr
  obtain ⟨ring, reserved⟩ := Prod.mk.inj fields
  have accepted := acceptCommand_of_no_read (s := { s with readTxn := none }) ⟨tag, .setCompletionRing base size⟩ rfl ho
  have moves : AdminCommand.movesRing ⟨tag, .setCompletionRing base size⟩ = true := rfl
  unfold takeCommand
  rw [hl, ha, ht]
  simp only [Bool.not_true, Bool.false_eq_true, if_false, ring, if_true, returnedCommand, hp, ne_eq, not_true_eq_false,
    moves, and_false]
  rw [← hp]
  exact accepted

end

/-- Settles O16, with a ring configured and without one: there the completion of a refusal is discarded. -/
theorem setCompletionRingMovesRing : Obligations.SetCompletionRingMovesRing := by
  intro s tag base size
  refine ⟨fun h => ?_, fun hl hp hz ha ho hr => ?_⟩
  · obtain ⟨_, running, ring, _⟩ := id h
    have free_iff := completionRingFree_iff (acceptedState s ⟨tag, .setCompletionRing base size⟩)
    rw [if_neg (show (acceptedState s ⟨tag, .setCompletionRing base size⟩).comp.ringSize ≠ 0 from ring)] at free_iff
    refine ⟨fun hv => answers_unchanged h rfl (runSetCompletionRing_of_invalid tag hv),
      fun hv hf => answers_unchanged h rfl (runSetCompletionRing_of_busy tag hv fun e => hf (free_iff.mp e)),
      fun hv hf => answers (s' := ringMoved s base size) h rfl (ringSize_ne_zero_of_arguments hv) running
        (runSetCompletionRing_of_free tag hv (free_iff.mpr hf))⟩
  · have free_iff := completionRingFree_iff (acceptedState s ⟨tag, .setCompletionRing base size⟩)
    rw [if_pos (show (acceptedState s ⟨tag, .setCompletionRing base size⟩).comp.ringSize = 0 from hz)] at free_iff
    have taken := takeCommand_of_returns_unconfigured (base := base) (size := size) tag hl hp ha ho hr
    have discarded : ∀ status detail, finishCommand tag status detail .zero
        (acceptedState s ⟨tag, .setCompletionRing base size⟩) = commandEnded s := by
      intro status detail
      have none_handed : handOff [adminCompletion tag status detail .zero]
          (acceptedState s ⟨tag, .setCompletionRing base size⟩) = acceptedState s ⟨tag, .setCompletionRing base size⟩ :=
        if_pos hz
      rw [finishCommand, none_handed]
      rfl
    refine ⟨fun hn => ?_, fun hv hf => ?_⟩
    · refine next_of_settle (u := takeCommand ⟨tag, .setCompletionRing base size⟩ s) rfl (steady_of_running hp) ?_
      rw [taken]
      by_cases hv : RingArguments base size
      · rw [runSetCompletionRing_of_busy tag hv fun e => hn.resolve_left (not_not_intro hv) (free_iff.mp e)]
        exact discarded _ _
      · rw [runSetCompletionRing_of_invalid tag hv]
        exact discarded _ _
    · refine next_of_settle (u := takeCommand ⟨tag, .setCompletionRing base size⟩ s) rfl (steady_of_running hp) ?_
      rw [taken, runSetCompletionRing_of_free tag hv (free_iff.mpr hf)]
      exact finishCommand_accepted (s' := ringMoved s base size) (ringSize_ne_zero_of_arguments hv) hp

end Sys2Proof.Machine
end

section
/-! STOP_AXIS and what its group has already sent to the axis (R36 to R43, R90, R184). -/

namespace Sys2Proof.Machine

/-! ### What a group has sent is taken before a stop (R90) -/

/-- An active axis trips (R95, R96). -/
theorem reportTaken_of_active {s : State} {a : AxisId} (c : TripCause) (hl : s.live = true)
    (ha : s.activeAxis a = true) : reportTaken a c s = trippedAt a c s := by
  rcases reportTaken_cases a c hl with ⟨idle, _⟩ | ⟨tripped, _⟩ | ⟨_, h⟩
  · rw [State.activeAxis, idle] at ha; cases ha
  · rw [State.activeAxis, tripped] at ha; cases ha
  · exact h

theorem groupReports_filter (s : State) (a : AxisId) :
    s.reports.filter (fun r => r.axis == a && (r.cause == .rdvTimeout || r.cause == .rdvBroken)) = groupReports s a := by
  unfold groupReports
  congr 1
  funext r
  simp only [Bool.decide_and, Bool.decide_or]
  rfl

/-- The completion unit as a segment ends OK (R4). -/
def CompletionUnit.segmentEnded (c : CompletionUnit) (part : PartState) (a : AxisId) (seg : Segment) (n : Nat)
    (st : Stats) : CompletionUnit :=
  if seg.quiet then { c with reservations := c.reservations - 1 }
  else c.handed part [segmentCompletion a seg .ok .none n st]

/-- A segment's OK end changes the completion unit alone. -/
theorem endedOk_eq (a : AxisId) (seg : Segment) (n : Nat) (st : Stats) (s : State) :
    endedOk a seg n st s = { s with comp := s.comp.segmentEnded s.part a seg n st } := by
  unfold endedOk CompletionUnit.segmentEnded
  rw [handedOver_eq]
  split_ifs <;> rfl

/-- The axis as a release is taken for its head (R26, R27). -/
def Axis.releaseTaken (x : Axis) (seg : Segment) (rest : List Segment) : Axis :=
  let x := { x with releaseSent := false, arrival := none }
  if seg.kind = 5 then
    if x.state = .waitRdv then { x with state := .starved, grace := 0, fifo := rest, endPermission := seg.endOk }
    else { x with fifo := rest, endPermission := seg.endOk }
  else if x.state = .waitRdv then { x with released := true }
  else x.withStaged seg rest

/-- A release taken that does not let the examination resume changes its axis and the completion unit (R26, R27). -/
theorem withRelease_eq {a : AxisId} {s : State} {seg : Segment} {rest : List Segment}
    (h : (s.axis a).fifo = seg :: rest) : withRelease a s =
      { s.setAxis a ((s.axis a).releaseTaken seg rest) with
        comp := if seg.kind = 5 then s.comp.segmentEnded s.part a seg 0 noStats else s.comp } := by
  unfold withRelease Axis.releaseTaken
  simp only [endedOk_eq, h]
  split
  · rfl
  · rfl

theorem releaseTaken_isActive {x : Axis} (seg : Segment) (rest : List Segment) (h : x.state.isActive = true) :
    (x.releaseTaken seg rest).state.isActive = true := by
  unfold Axis.releaseTaken
  dsimp only
  split
  · split
    · rfl
    · exact h
  · split
    · exact h
    · exact h

theorem releaseTaken_releaseSent (x : Axis) (seg : Segment) (rest : List Segment) :
    (x.releaseTaken seg rest).releaseSent = false := by
  unfold Axis.releaseTaken
  dsimp only
  split <;> split <;> rfl

/-- A release on its way is taken before the stop (log entry 6). -/
theorem finishGroup_of_release {s : State} {a : AxisId} (hn : groupReports s a = [])
    (h : ReleaseOnItsWay (s.axis a)) : finishGroup a s = withRelease a s := by
  have onway := h
  obtain ⟨_, _, _, seg, rest, hf, _⟩ := h
  have taken : takeRelease a { s with reports := [] } = { withRelease a s with reports := [] } := by
    rw [takeRelease_eq (s := { s with reports := [] }) onway, withRelease_eq (s := { s with reports := [] }) hf,
      withRelease_eq hf]
    rfl
  unfold finishGroup
  rw [takeInFlight_of_none (by rw [groupReports_filter, hn]), takingOwn_of_none (by rw [taken]), taken,
    withRelease_eq hf]
  rfl

/-- The trip of a report that the axis's group has sent comes before the stop (log entry 30). -/
theorem finishGroup_of_report {s : State} {a : AxisId} {c : TripCause} (hl : s.live = true)
    (ha : s.activeAxis a = true) (h : groupReports s a = [⟨a, c⟩]) :
    finishGroup a s = reportTaken a c { s with reports := s.reports.erase ⟨a, c⟩ } := by
  have taken := takeInFlight_of_one (by rw [groupReports_filter, h]) hl
  have tripped := reportTaken_of_active (s := { s with reports := s.reports.erase ⟨a, c⟩ }) c hl ha
  have sent : ((trippedAt a c { s with reports := s.reports.erase ⟨a, c⟩ }).axis a).releaseSent = false := by
    rw [axis_trippedAt, if_pos rfl]
    rfl
  unfold finishGroup
  rw [taken, tripped]
  generalize trippedAt a c { s with reports := s.reports.erase ⟨a, c⟩ } = u at sent
  have none' : takeRelease a { u with reports := [] } = { u with reports := [] } := takeRelease_of_none sent
  rw [takingOwn_of_none (by rw [none']), none']

/-! ### An axis that stops (R38 to R41) -/

/-- The axis stopped, its ring skipped, having left its group, its completions handed over (R38, R39, R41). -/
def stoppedAt (a : AxisId) (done : List Completion) (s : State) : State :=
  { (departed a s).setAxis a { (s.axis a).idled with consumer := (s.axis a).producer } with
    comp := s.comp.handed s.part done
    meas := { s.meas with queue := staleFor a s.meas.queue } }

/-- A departure changes the groups alone, and looks at the groups and the mark alone. -/
theorem departed_eq (a : AxisId) (s : State) : departed a s = { s with groups := (departed a s).groups } := by
  rw [← depart_eq]
  exact depart_eq_groups a s

theorem groups_departed_congr {s t : State} {a : AxisId} (h : t.groups = s.groups)
    (ha : (t.axis a).arrival = (s.axis a).arrival) : (departed a t).groups = (departed a s).groups := by
  rw [← depart_eq, ← depart_eq]
  exact groups_depart_congr h ha

theorem stop_eq_stoppedAt (a : AxisId) (done : List Completion) (s : State) :
    handOff done (markStale a ((depart a s).setAxis a (((depart a s).axis a).stopped .idle).skipped)) =
      stoppedAt a done s := by
  have same : (depart a s).axis a = s.axis a := axis_congr (by rw [depart_eq_groups]) a
  rw [handOff_eq, handedOver_eq, same, stoppedAt, depart_eq]
  have frame := departed_eq a s
  rw [frame]
  rfl

theorem flushedRecords_eq (a : AxisId) (x : Axis) :
    flushedRecords a x = notPlayed a .flushed .none x.staged.toList ++ notPlayed a .flushed .none x.fifo :=
  List.map_append

/-- The completions of an IMMEDIATE stop, in the order of R40. -/
def immediateRecords (a : AxisId) (tag : Half) (x : Axis) : List Completion :=
  (x.active.toList.map fun g => segmentCompletion a g.seg .aborted .none (g.index + 1) g.stats) ++
    notPlayed a .flushed .none x.staged.toList ++ notPlayed a .flushed .none x.fifo ++
    stopCompletion x .ok .preempted 0 ++ [okCompletion tag (.stopAxis x.ringHolds)]

theorem immediateStop_eq (a : AxisId) (tag : Half) (s : State) :
    immediateStop a tag s = stoppedAt a (immediateRecords a tag (s.axis a)) s := by
  have same : (depart a s).axis a = s.axis a := axis_congr (by rw [depart_eq_groups]) a
  rw [← stop_eq_stoppedAt, immediateStop, immediateRecords, same, flushedRecords_eq, ← List.append_assoc]
  rfl

/-! ### STOP_AXIS (R36, R184) -/

section
variable {axis mode : Byte} {a : AxisId} (tag : Half) (s : State)

theorem runStopAxis_of_invalid (h : 4 ≤ axis.toNat ∨ 2 ≤ mode.toNat) :
    runStopAxis tag axis mode s = badParameter tag s := by
  unfold runStopAxis
  rcases h with h | h
  · rw [axisOfByte_of_ge h]
  · split
    · rfl
    · exact if_pos h

/-- STOP_AXIS with valid arguments: an IMMEDIATE one of an active axis takes what its group has sent first. -/
theorem runStopAxis_eq (ha : axis.toNat = a.val) (hm : mode.toNat ≤ 1) : runStopAxis tag axis mode s =
    answerStop tag a (mode == 1) (if mode = 1 ∧ s.activeAxis a = true then finishGroup a s else s) := by
  unfold runStopAxis
  rw [axisOfByte_of_eq ha]
  simp only [if_neg (Nat.not_lt.mpr hm), Bool.and_eq_true, beq_iff_eq]

theorem answerStop_of_idle (immediate : Bool) (h : (s.axis a).state = .idle) :
    answerStop tag a immediate s = finishCommand tag .ok .none (.stopAxis 0) s := by
  unfold answerStop
  dsimp only
  rw [h]

theorem answerStop_of_tripped (immediate : Bool) (h : (s.axis a).state = .tripped) :
    answerStop tag a immediate s = refuse tag .wrongState s := by
  unfold answerStop
  dsimp only
  rw [h]

theorem answerStop_of_active (immediate : Bool) (h : s.activeAxis a = true) :
    answerStop tag a immediate s =
      if immediate then endExecution (immediateStop a tag s)
      else if (s.axis a).pendingStop.isSome then refuse tag .stopPending s
      else endExecution (s.setAxis a { s.axis a with pendingStop := some tag }) := by
  unfold State.activeAxis at h
  unfold answerStop
  dsimp only
  cases hs : (s.axis a).state
  case idle | tripped =>
    rw [hs] at h
    cases h
  all_goals rfl

end

theorem handed_of_ring {c : CompletionUnit} {part : PartState} (cs : List Completion) (hr : c.ringSize ≠ 0)
    (hp : part ≠ .failed) : c.handed part cs = { c with queue := c.queue ++ cs } :=
  (if_neg hr).trans (if_neg hp)

/-- The stop of an accepted command, and the end of its execution. -/
theorem endExecution_stoppedAt {s : State} (c : AdminCommand) {a : AxisId} (done : List Completion)
    (hr : s.comp.ringSize ≠ 0) (hp : s.part ≠ .failed) :
    endExecution (stoppedAt a done (acceptedState s c)) =
      commandEnded { (departed a s).setAxis a { (s.axis a).idled with consumer := (s.axis a).producer } with
        comp := { s.comp with queue := s.comp.queue ++ done }
        meas := { s.meas with queue := staleFor a s.meas.queue } } := by
  have groups : (departed a (acceptedState s c)).groups = (departed a s).groups := groups_departed_congr rfl rfl
  have comp : (acceptedState s c).comp.handed (acceptedState s c).part done =
      { s.comp with queue := s.comp.queue ++ done } := handed_of_ring done hr hp
  unfold stoppedAt
  rw [departed_eq, groups, departed_eq a s, comp]
  rfl

/-- Settles O22: what its group has sent is taken already, so that the stop finds the axis as it is. -/
theorem immediateStopEndsEverything : Obligations.ImmediateStopEndsEverything := by
  intro s tag axis a h ha hactive hreports hsent
  obtain ⟨_, running, ring, _⟩ := id h
  have steady : (departed a s).part = .running := by rw [departed_eq]; exact running
  refine next_of_settle (u := takeCommand ⟨tag, .stopAxis axis 1⟩ s) rfl (steady_of_running steady) ?_
  rw [takeCommand_of_returns h]
  show runStopAxis tag axis 1 _ = _
  rw [runStopAxis_eq tag _ ha (by decide), if_pos ⟨rfl, hactive⟩,
    finishGroup_of_none (s := acceptedState s _) hsent hreports,
    answerStop_of_active tag (acceptedState s _) _ hactive]
  show endExecution (immediateStop a tag (acceptedState s _)) = _
  rw [immediateStop_eq]
  exact endExecution_stoppedAt _ _ ring (by rw [running]; decide)

/-- A release taken leaves the admin unit and its read. -/
theorem withRelease_acceptedState {s : State} {a : AxisId} (c : AdminCommand) (h : ReleaseOnItsWay (s.axis a)) :
    withRelease a (acceptedState s c) = acceptedState (withRelease a s) c := by
  obtain ⟨_, _, _, seg, rest, hf, _⟩ := h
  rw [withRelease_eq hf, withRelease_eq (s := acceptedState s c) hf]
  rfl

/-- A trip leaves the admin unit and its read. -/
theorem trippedAt_acceptedState (s : State) (a : AxisId) (cause : TripCause) (c : AdminCommand) :
    trippedAt a cause (acceptedState s c) = acceptedState (trippedAt a cause s) c := by
  simp only [trippedAt, handedOver_eq]
  rfl

theorem handed_ringSize (c : CompletionUnit) (part : PartState) (cs : List Completion) :
    (c.handed part cs).ringSize = c.ringSize := by
  unfold CompletionUnit.handed
  split_ifs <;> rfl

theorem segmentEnded_ringSize (c : CompletionUnit) (part : PartState) (a : AxisId) (seg : Segment) (n : Nat)
    (st : Stats) : (c.segmentEnded part a seg n st).ringSize = c.ringSize := by
  unfold CompletionUnit.segmentEnded
  split
  · rfl
  · exact handed_ringSize _ _ _

/-- A command is accepted just as well once a release is taken. -/
theorem commandReturns_withRelease {s : State} {a : AxisId} (h : CommandReturns s) (hr : ReleaseOnItsWay (s.axis a)) :
    CommandReturns (withRelease a s) := by
  obtain ⟨low, running, ring, rest⟩ := h
  obtain ⟨_, _, _, seg, tail, hf, _⟩ := hr
  rw [withRelease_eq hf]
  refine ⟨low, running, ?_, rest⟩
  show CompletionUnit.ringSize (if seg.kind = 5 then s.comp.segmentEnded s.part a seg 0 noStats else s.comp) ≠ 0
  split
  · rwa [segmentEnded_ringSize]
  · exact ring

/-- A command is accepted just as well once an axis has tripped. -/
theorem commandReturns_trippedAt {s : State} (a : AxisId) (cause : TripCause) (h : CommandReturns s) :
    CommandReturns (trippedAt a cause s) := by
  obtain ⟨low, running, ring, rest⟩ := h
  simp only [trippedAt, handedOver_eq]
  exact ⟨low, running, by rwa [handed_ringSize], rest⟩

/-- Settles O21: what a group has sent changes neither the admin unit nor its read, so that the command is
accepted as well where it has been taken. -/
theorem stopAxisAnswersByState : Obligations.StopAxisAnswersByState := by
  intro s tag axis mode h
  obtain ⟨low, running, _⟩ := id h
  have live : s.live = true := live_iff.mpr ⟨low, by rw [running]; decide⟩
  refine ⟨fun hv => answers_unchanged h rfl (runStopAxis_of_invalid tag _ hv), fun a ha hm => ?_⟩
  have runs : ∀ u : State, runCommand ⟨tag, .stopAxis axis mode⟩ (acceptedState u ⟨tag, .stopAxis axis mode⟩) =
      answerStop tag a (mode == 1) (if mode = 1 ∧ u.activeAxis a = true then
        finishGroup a (acceptedState u ⟨tag, .stopAxis axis mode⟩) else acceptedState u ⟨tag, .stopAxis axis mode⟩) :=
    fun u => runStopAxis_eq tag _ ha hm
  have execs : ∀ {u : State}, CommandReturns u → exec (.stopAxis tag axis mode) u = .next (settle
      (runCommand ⟨tag, .stopAxis axis mode⟩ (acceptedState u ⟨tag, .stopAxis axis mode⟩))) := by
    intro u hu
    rw [← takeCommand_of_returns hu]
    rfl
  have inactive : ∀ u : State, (u.axis a).state.isActive = false → ¬ (mode = 1 ∧ u.activeAxis a = true) :=
    fun u hi ha => by
      rw [State.activeAxis, hi] at ha
      exact Bool.false_ne_true ha.2
  refine ⟨fun hi => answers_unchanged h rfl ?_, fun ht => answers_unchanged h rfl ?_,
    fun hact hmode => ?_, fun hmode hn hr => ?_, fun cause hmode hact hr => ?_⟩
  · rw [runs, if_neg (inactive s (by rw [hi]; rfl))]
    exact answerStop_of_idle tag (acceptedState s _) _ hi
  · rw [runs, if_neg (inactive s (by rw [ht]; rfl))]
    exact answerStop_of_tripped tag (acceptedState s _) _ ht
  · have pends : runCommand ⟨tag, .stopAxis axis mode⟩ (acceptedState s ⟨tag, .stopAxis axis mode⟩) =
        if (s.axis a).pendingStop.isSome then
          refuse tag .stopPending (acceptedState s ⟨tag, .stopAxis axis mode⟩)
        else endExecution ((acceptedState s ⟨tag, .stopAxis axis mode⟩).setAxis a
          { s.axis a with pendingStop := some tag }) := by
      rw [runs, hmode, if_neg (fun h => absurd h.1 (by decide)), answerStop_of_active tag (acceptedState s _) _ hact]
      rfl
    refine ⟨fun hp => ?_, fun hp => answers_unchanged h rfl ?_⟩
    · refine next_of_settle (u := takeCommand ⟨tag, .stopAxis axis mode⟩ s) rfl (steady_of_running running) ?_
      rw [takeCommand_of_returns h, pends, hp]
      rfl
    · rw [pends, if_pos (Option.isSome_iff_ne_none.mpr hp)]
      rfl
  · obtain ⟨_, _, _, seg, tail, hf, _⟩ := id hr
    have axis : (withRelease a s).axis a = (s.axis a).releaseTaken seg tail := by
      rw [withRelease_eq hf]
      exact axis_setAxis_self s a _
    have active : (withRelease a s).activeAxis a = true := by
      rw [State.activeAxis, axis]
      exact releaseTaken_isActive _ _ hr.1
    have sent : ((withRelease a s).axis a).releaseSent = false := by
      rw [axis]
      exact releaseTaken_releaseSent _ _ _
    have none_reported : groupReports (withRelease a s) a = [] := by
      rw [withRelease_eq hf]
      exact hn
    rw [execs h, runs, execs (commandReturns_withRelease h hr), runs, if_pos ⟨hmode, hr.1⟩, if_pos ⟨hmode, active⟩,
      finishGroup_of_release (s := acceptedState s _) hn hr, withRelease_acceptedState _ hr,
      finishGroup_of_none (s := acceptedState (withRelease a s) _) sent none_reported]
  · have returns := commandReturns_trippedAt (s := { s with reports := s.reports.erase ⟨a, cause⟩ }) a cause h
    have trips := reportTaken_of_active (s := { s with reports := s.reports.erase ⟨a, cause⟩ }) cause live hact
    have trips' := reportTaken_of_active (s := { acceptedState s ⟨tag, .stopAxis axis mode⟩ with
      reports := s.reports.erase ⟨a, cause⟩ }) cause live hact
    have tripped : ((trippedAt a cause { s with reports := s.reports.erase ⟨a, cause⟩ }).axis a).state.isActive =
        false := by
      rw [axis_trippedAt, if_pos rfl]
      rfl
    rw [trips, execs h, runs, execs returns, runs, if_pos ⟨hmode, hact⟩, if_neg (inactive _ tripped),
      finishGroup_of_report (s := acceptedState s _) (c := cause) live hact hr]
    rw [show reportTaken a cause { acceptedState s ⟨tag, .stopAxis axis mode⟩ with
      reports := (acceptedState s ⟨tag, .stopAxis axis mode⟩).reports.erase ⟨a, cause⟩ } = _ from trips',
      ← trippedAt_acceptedState]
    rfl

end Sys2Proof.Machine
end

section
/-! The records in host memory (chapter 12). -/

namespace Sys2Proof.Machine

/-! ### Fields of several bytes -/

theorem append_of_halves {n : Nat} (x : BitVec (n + n)) : x.extractLsb' n n ++ x.extractLsb' 0 n = x := by
  refine BitVec.eq_of_getLsbD_eq fun i hi => ?_
  rw [BitVec.getLsbD_append, BitVec.getLsbD_extractLsb', BitVec.getLsbD_extractLsb']
  by_cases h : i < n
  · simp [h]
  · have inside : i - n < n := by omega
    have back : n + (i - n) = i := by omega
    simp [h, inside, back]

theorem half_of_bytes (x : Half) : x.extractLsb' 8 8 ++ x.extractLsb' 0 8 = x := append_of_halves (n := 8) x

theorem word_of_halves (x : Word) : x.extractLsb' 16 16 ++ x.extractLsb' 0 16 = x := append_of_halves (n := 16) x

theorem word_of_bytes (x : Word) :
    ((x.extractLsb' 16 16).extractLsb' 8 8 ++ (x.extractLsb' 16 16).extractLsb' 0 8) ++
      ((x.extractLsb' 0 16).extractLsb' 8 8 ++ (x.extractLsb' 0 16).extractLsb' 0 8) = x := by
  rw [half_of_bytes, half_of_bytes]
  exact word_of_halves x

theorem byteAt_cons_zero (b : Byte) (r : List Byte) : byteAt (b :: r) 0 = b := rfl

theorem byteAt_cons_succ (b : Byte) (r : List Byte) (i : Nat) : byteAt (b :: r) (i + 1) = byteAt r i := rfl

theorem halfAt_congr {r r' : List Byte} {i : Nat} (h0 : byteAt r i = byteAt r' i)
    (h1 : byteAt r (i + 1) = byteAt r' (i + 1)) : halfAt r i = halfAt r' i := by
  rw [halfAt, halfAt, h0, h1]

/-! ### Records read by the part (R202) -/

/-- The flags and the group of a segment record, apart from its reserved bits. -/
theorem segment_flags (rdv quiet endOk : Bool) (g : BitVec 3) :
    let f : Byte := 0#5 ++ BitVec.ofBool rdv ++ BitVec.ofBool quiet ++ BitVec.ofBool endOk
    (f.getLsbD 0 = endOk ∧ f.getLsbD 1 = quiet ∧ f.getLsbD 2 = rdv) ∧ (0#5 ++ g : BitVec 8).extractLsb' 0 3 = g := by
  revert rdv quiet endOk g
  decide

theorem decodeSegment_encodeSegment (seg : Segment) : decodeSegment (encodeSegment seg) = seg := by
  obtain ⟨⟨endOk, quiet, rdv⟩, group⟩ := segment_flags seg.rdv seg.quiet seg.endOk seg.group
  simp only [decodeSegment, encodeSegment, halfBytes, halfAt, List.cons_append, List.nil_append, byteAt_cons_zero,
    byteAt_cons_succ, half_of_bytes, endOk, quiet, rdv, group]

theorem decodeBody_encodeCommand (c : AdminCommand) (h : c.body.opcodeOk = true) :
    decodeBody (encodeCommand c) = c.body := by
  obtain ⟨tag, body⟩ := c
  cases body with
  | unknown opcode =>
    have none_known : ∀ b : Byte, (b == 0 || decide (9 < b.toNat)) = true →
        b ≠ 1#8 ∧ b ≠ 2#8 ∧ b ≠ 3#8 ∧ b ≠ 4#8 ∧ b ≠ 5#8 ∧ b ≠ 6#8 ∧ b ≠ 7#8 ∧ b ≠ 8#8 ∧ b ≠ 9#8 := by decide
    obtain ⟨h1, h2, h3, h4, h5, h6, h7, h8, h9⟩ := none_known opcode h
    have byte : byteAt (encodeCommand ⟨tag, .unknown opcode⟩) 2 = opcode := rfl
    unfold decodeBody
    rw [byte]
    dsimp only
    rw [if_neg h1, if_neg h2, if_neg h3, if_neg h4, if_neg h5, if_neg h6, if_neg h7, if_neg h8, if_neg h9]
  | _ =>
    simp only [decodeBody, encodeCommand, encodeBody, wordBytes, halfBytes, wordAt, halfAt, List.cons_append,
      List.nil_append, byteAt_cons_zero, byteAt_cons_succ, half_of_bytes, word_of_halves, BitVec.reduceEq,
      Nat.reduceAdd, if_true, if_false]

/-- A command record reads as it was written. -/
theorem decodeCommand_encodeCommand (c : AdminCommand) (h : c.body.opcodeOk = true) :
    decodeCommand (encodeCommand c) = c := by
  have tag : halfAt (encodeCommand c) 0 = c.tag := half_of_bytes c.tag
  rw [decodeCommand, decodeBody_encodeCommand c h, tag]

theorem length_encodeCommand (c : AdminCommand) : (encodeCommand c).length = 32 := by
  obtain ⟨tag, body⟩ := c
  cases body <;> rfl

/-- The bytes a command reads are those of its argument area (Table 12-3). -/
theorem decodeCommand_congr {r r' : List Byte}
    (h : ∀ i ∈ [0, 1, 2] ++ argumentOffsets (byteAt r 2), byteAt r i = byteAt r' i) :
    decodeCommand r = decodeCommand r' := by
  have tag : halfAt r 0 = halfAt r' 0 := halfAt_congr (h 0 (by simp)) (h 1 (by simp))
  have opcode : byteAt r' 2 = byteAt r 2 := (h 2 (by simp)).symm
  have args : ∀ i ∈ argumentOffsets (byteAt r 2), byteAt r i = byteAt r' i := fun i hi => h i (by simp [hi])
  suffices body : decodeBody r = decodeBody r' by rw [decodeCommand, decodeCommand, tag, body]
  unfold decodeBody
  dsimp only
  rw [opcode]
  split_ifs with h1 h2 h3 h4 h5 h6 h7 h8 h9
  case neg => rfl
  all_goals
    rw [‹byteAt r 2 = _›] at args
    simp [argumentOffsets] at args
    simp [wordAt, halfAt, args]

/-- Settles O49, by the round trips of the two kinds of record and the bytes that decoding reads. -/
theorem recordsReadAsWritten : Obligations.RecordsReadAsWritten := by
  refine ⟨fun seg => ⟨rfl, decodeSegment_encodeSegment seg⟩,
    fun c h => ⟨length_encodeCommand c, decodeCommand_encodeCommand c h⟩, fun r r' h h3 h4 => ?_,
    fun r r' h => decodeCommand_congr h⟩
  have bit : ∀ i < 3, (byteAt r 3).getLsbD i = (byteAt r' 3).getLsbD i := by
    intro i hi
    have := congrArg (·.getLsbD i) h3
    simpa [BitVec.getLsbD_extractLsb', hi] using this
  have half : ∀ i, i + 1 < 22 → (i + 1 < 3 ∨ 6 ≤ i) → halfAt r i = halfAt r' i := fun i hi hr =>
    halfAt_congr (h i (by omega) (by omega) (by omega) (by omega)) (h (i + 1) hi (by omega) (by omega) (by omega))
  unfold decodeSegment
  rw [bit 0 (by decide), bit 1 (by decide), bit 2 (by decide), h4, h 2 (by decide) (by decide) (by decide) (by decide),
    half 0, half 6, half 8, half 10, half 12, half 14, half 16, half 18, half 20]
  all_goals decide

/-! ### Records written by the part (R203) -/

/-- A number of at most three bits below the flag of a byte. -/
theorem toNat_flagged {n : Nat} (h : n < 8) (flag : Bool) :
    (BitVec.ofNat 8 n ||| (if flag then 0x80#8 else 0#8)).toNat = n + (if flag = true then 128 else 0) := by
  revert n
  cases flag <;> decide

theorem toNat_byte {n : Nat} (h : n < 256) : (BitVec.ofNat 8 n).toNat = n := Nat.mod_eq_of_lt h

theorem toNat_half {n : Nat} (h : n < 65536) : (BitVec.ofNat 16 n).toNat = n := Nat.mod_eq_of_lt h

theorem causeCode_lt (c : TripCause) : causeCode c < 256 := by cases c <;> decide

theorem statusCode_lt (x : Status) : statusCode x < 256 := by cases x <;> decide

theorem detailCode_lt (d : Detail) : detailCode d < 256 := by
  cases d
  case trip c => exact causeCode_lt c
  all_goals decide

theorem sourceCode_lt (x : CompletionSource) : sourceCode x < 8 := by
  cases x with
  | axis a => exact a.isLt.trans (by decide)
  | admin => decide

/-- The bytes of a completion before its body (Table 12-4). -/
theorem completion_head (lap : Bool) (c : Completion) :
    halfAt (completionBytes lap c) 0 = c.tag ∧
      (byteAt (completionBytes lap c) 2).toNat = sourceCode c.source + (if lap = true then 128 else 0) ∧
      (byteAt (completionBytes lap c) 3).toNat = statusCode c.status ∧
      (byteAt (completionBytes lap c) 4).toNat = detailCode c.detail ∧ byteAt (completionBytes lap c) 5 = 0 :=
  ⟨half_of_bytes c.tag, toNat_flagged (sourceCode_lt _) lap, toNat_byte (statusCode_lt _),
    toNat_byte (detailCode_lt _), rfl⟩

theorem length_bodyBytes (b : CompletionBody) : (bodyBytes b).length = 10 := by
  cases b with
  | segment n st => rfl
  | admin result => cases result <;> rfl

/-- The body of a segment completion (Table 12-4). -/
theorem completion_segment (lap : Bool) {c : Completion} {n : Nat} {st : Stats} (h : c.body = .segment n st) :
    halfAt (completionBytes lap c) 6 = BitVec.ofNat 16 n ∧
      halfAt (completionBytes lap c) 8 = BitVec.ofNat 16 st.peakCurrent ∧
      byteAt (completionBytes lap c) 10 = BitVec.ofNat 8 st.skipped ∧
      byteAt (completionBytes lap c) 11 = BitVec.ofNat 8 st.stolen ∧
      halfAt (completionBytes lap c) 12 = BitVec.ofNat 16 st.busMin ∧
      halfAt (completionBytes lap c) 14 = BitVec.ofNat 16 st.busMax := by
  simp only [completionBytes, h, bodyBytes, natBytes, halfBytes, halfAt, List.cons_append, List.nil_append,
    byteAt_cons_zero, byteAt_cons_succ, half_of_bytes, and_self]

/-- A run of reserved bytes is written as 0. -/
theorem zero_run {r : List Byte} {first last : Nat}
    (h : (r.drop first).take (last + 1 - first) = zeroBytes (last + 1 - first)) :
    ∀ i, first ≤ i → i ≤ last → byteAt r i = 0 := by
  intro i hf hl
  have at_i : ((r.drop first).take (last + 1 - first))[i - first]? = some 0 := by
    rw [h, zeroBytes, List.getElem?_replicate, if_pos (by omega)]
  rw [List.getElem?_take_of_lt (by omega), List.getElem?_drop, Nat.add_sub_cancel' hf] at at_i
  rw [byteAt, List.getD_eq_getElem?_getD, at_i]
  rfl

/-- The body of an administrative completion (Table 12-6). -/
theorem completion_admin (lap : Bool) (c : Completion) (result : AdminResult) :
    let r := completionBytes lap { c with body := .admin result }
    (∀ i, 6 ≤ i → i ≤ 7 → byteAt r i = 0) ∧ match result with
      | .zero => ∀ i, 8 ≤ i → i ≤ 15 → byteAt r i = 0
      | .startAxis consumer occupancy => halfAt r 8 = BitVec.ofNat 16 consumer ∧
          halfAt r 10 = BitVec.ofNat 16 occupancy ∧
          ∀ i, 12 ≤ i → i ≤ 15 → byteAt r i = 0
      | .stopAxis skip => halfAt r 8 = BitVec.ofNat 16 skip ∧
          ∀ i, 10 ≤ i → i ≤ 15 → byteAt r i = 0
      | .clearFault timestamp later skip => wordAt r 8 = timestamp ∧
          halfAt r 12 = later ∧ halfAt r 14 = BitVec.ofNat 16 skip
      | .defineGroup previous generation =>
          byteAt r 8 = BitVec.ofNat 8 (groupStateCode previous) ∧
          (∀ i, 9 ≤ i → i ≤ 9 → byteAt r i = 0) ∧
          halfAt r 10 = generation ∧
          ∀ i, 12 ≤ i → i ≤ 15 → byteAt r i = 0
      | .readAxis timebase => wordAt r 8 = timebase ∧
          ∀ i, 12 ≤ i → i ≤ 15 → byteAt r i = 0 := by
  refine ⟨zero_run rfl, ?_⟩
  cases result with
  | zero => exact zero_run rfl
  | startAxis consumer occupancy => exact ⟨half_of_bytes _, half_of_bytes _, zero_run rfl⟩
  | stopAxis skip => exact ⟨half_of_bytes _, zero_run rfl⟩
  | clearFault timestamp later skip => exact ⟨word_of_bytes _, half_of_bytes _, half_of_bytes _⟩
  | defineGroup previous generation => exact ⟨rfl, zero_run rfl, half_of_bytes _, zero_run rfl⟩
  | readAxis timebase => exact ⟨word_of_bytes _, zero_run rfl⟩

theorem length_completionBytes (lap : Bool) (c : Completion) : (completionBytes lap c).length = 16 := by
  show (bodyBytes c.body).length + 6 = 16
  rw [length_bodyBytes]

/-- The position value of a snapshot, by axis state (R45). -/
theorem position_eq (x : Axis) : x.position = match x.state, x.active with
      | .run, some g => g.index
      | .precharge, _ => x.prechargeIndex
      | .starved, _ => x.grace
      | _, _ => 0 := by
  unfold Axis.position
  cases x.state
  case run => cases x.active <;> rfl
  all_goals rfl

theorem halfAt_drop (r : List Byte) (n i : Nat) : halfAt r (n + i) = halfAt (r.drop n) i := by
  simp only [halfAt, byteAt, List.getD_eq_getElem?_getD, List.getElem?_drop, Nat.add_assoc]

/-- Two-byte fields one after the other. -/
theorem halfAt_flatMap {α : Type} (f : α → Half) (tail : List Byte) (l : List α) {i : Nat} (h : i < l.length) :
    halfAt ((l.flatMap fun x => halfBytes (f x)) ++ tail) (2 * i) = f l[i] := by
  induction l generalizing i with
  | nil => cases h
  | cons x l ih =>
    cases i with
    | zero => exact half_of_bytes (f x)
    | succ i => exact ih (Nat.lt_of_succ_lt_succ h)

/-- The part of a snapshot that a trip record fills (Table 12-7). -/
theorem snapshot_trip (s : State) (a : AxisId) :
    (∀ t, (s.axis a).tripRecord = some t → (byteAt (snapshotBytes s a) 6).toNat = causeCode t.first ∧
      wordAt (snapshotBytes s a) 8 = t.timestamp ∧ halfAt (snapshotBytes s a) 12 = t.later) ∧
    ((s.axis a).tripRecord = none → (∀ i, 6 ≤ i → i ≤ 6 → byteAt (snapshotBytes s a) i = 0) ∧
      ∀ i, 8 ≤ i → i ≤ 13 → byteAt (snapshotBytes s a) i = 0) := by
  have code : byteAt (snapshotBytes s a) 6 =
      BitVec.ofNat 8 (((s.axis a).tripRecord.map fun t => causeCode t.first).getD 0) := rfl
  have timestamp : wordAt (snapshotBytes s a) 8 = ((s.axis a).tripRecord.map (·.timestamp)).getD 0 := word_of_bytes _
  have later : halfAt (snapshotBytes s a) 12 = ((s.axis a).tripRecord.map (·.later)).getD 0 := half_of_bytes _
  have bytes : ((snapshotBytes s a).drop 8).take 6 = wordBytes (((s.axis a).tripRecord.map (·.timestamp)).getD 0) ++
      halfBytes (((s.axis a).tripRecord.map (·.later)).getD 0) := rfl
  refine ⟨fun t h => ?_, fun h => ⟨fun i h1 h2 => ?_, zero_run ?_⟩⟩
  · rw [code, timestamp, later, h]
    exact ⟨toNat_byte (causeCode_lt _), rfl, rfl⟩
  · obtain rfl : i = 6 := by omega
    rw [code, h]
    rfl
  · rw [bytes, h]
    rfl

/-- Settles O50, table by table: head and body of a completion, then the parts of a snapshot. -/
theorem recordsWrittenByTables : Obligations.RecordsWrittenByTables := by
  refine ⟨fun lap c => ?_, fun s a => ?_⟩
  · obtain ⟨tag, source, status, detail, last⟩ := completion_head lap c
    refine ⟨length_completionBytes lap c, tag, source, status, detail, zero_run rfl, fun n st hb hn h1 h2 h3 h4 h5 => ?_,
      fun result hb => ?_⟩
    · obtain ⟨periods, peak, skipped, stolen, busMin, busMax⟩ := completion_segment lap hb
      rw [periods, peak, skipped, stolen, busMin, busMax]
      exact ⟨toNat_half hn, toNat_half h1, toNat_byte h2, toNat_byte h3, toNat_half h4, toNat_half h5⟩
    · obtain ⟨zero, fields⟩ := completion_admin lap c result
      have same : { c with body := .admin result } = c := by rw [← hb]
      rw [same] at zero fields
      refine ⟨zero, ?_⟩
      cases result with
      | zero => exact fields
      | startAxis consumer occupancy =>
        obtain ⟨f1, f2, f3⟩ := fields
        exact fun hc ho => ⟨by rw [f1, toNat_half hc], by rw [f2, toNat_half ho], f3⟩
      | stopAxis skip =>
        obtain ⟨f1, f2⟩ := fields
        exact fun hs => ⟨by rw [f1, toNat_half hs], f2⟩
      | clearFault timestamp later skip =>
        obtain ⟨f1, f2, f3⟩ := fields
        exact fun hs => ⟨f1, f2, by rw [f3, toNat_half hs]⟩
      | defineGroup previous generation =>
        obtain ⟨f1, f2, f3, f4⟩ := fields
        exact ⟨by rw [f1]; cases previous <;> rfl, f2, f3, f4⟩
      | readAxis timebase => exact fields
  · have consumer : halfAt (snapshotBytes s a) 2 = BitVec.ofNat 16 (s.axis a).consumer := half_of_bytes _
    have position : halfAt (snapshotBytes s a) 4 = BitVec.ofNat 16 (s.axis a).position := half_of_bytes _
    have stolen : halfAt (snapshotBytes s a) 18 = BitVec.ofNat 16 (s.axis a).stolenTotal := half_of_bytes _
    obtain ⟨tripped, untripped⟩ := snapshot_trip s a
    refine ⟨rfl, toNat_byte ((AxisState.code_lt _).trans (by decide)), fun h => toNat_byte h,
      fun h => by rw [consumer, toNat_half h], ?_, toNat_byte (a.isLt.trans (by decide)), tripped, untripped,
      fun h => toNat_flagged (h.trans (by decide)) _, fun h => toNat_flagged (h.trans (by decide)) _,
      fun h => toNat_flagged (h.trans (by decide)) _, zero_run rfl, fun h => by rw [stolen, toNat_half h], zero_run rfl,
      fun g => ?_, zero_run rfl⟩
    · intro _ h
      have fits : (s.axis a).position < 65536 := by rw [position_eq]; exact h
      rw [position, toNat_half fits, position_eq] <;> rfl
    · have tail : (snapshotBytes s a).drop 24 = (groupIds.flatMap fun g =>
          halfBytes (if hasAxis (s.group g).members a then (s.group g).generation else 0)) ++ zeroBytes 24 := rfl
      rw [halfAt_drop, tail, halfAt_flatMap _ _ _ g.isLt]
      fin_cases g <;> rfl

end Sys2Proof.Machine
end

section
/-! The responses at the host memory port: reads of the axis rings and of the administrative ring (chapters 8
and 10). -/

namespace Sys2Proof.Machine

/-! ### A command that waited for a read (R149) -/

theorem axisOfByte_eq_some {b : Byte} {a : AxisId} : axisOfByte b = some a ↔ b.toNat = a.val := by
  refine ⟨fun h => ?_, axisOfByte_of_eq⟩
  unfold axisOfByte at h
  split at h
  · exact congrArg Fin.val (Option.some.inj h)
  · cases h

/-- The command in execution waits for axis a's read: it is one of the three that name a ring, of that axis. -/
theorem waitsFor_iff {s : State} {a : AxisId} {c : AdminCommand} :
    WaitsFor s a c ↔ s.admin.state = .executing ∧ s.admin.current = some c ∧ c.ringAxis = some a := by
  unfold WaitsFor
  refine and_congr_right fun _ => and_congr_right fun _ => ⟨?_, fun h => ?_⟩
  · rintro ⟨tag, axis, ha, rfl | ⟨base, size, rfl⟩ | ⟨d, rfl⟩⟩ <;> exact axisOfByte_of_eq ha
  · obtain ⟨tag, body⟩ := c
    cases body with
    | startAxis axis => exact ⟨tag, axis, axisOfByte_eq_some.mp h, .inl rfl⟩
    | setAxisRing axis base size => exact ⟨tag, axis, axisOfByte_eq_some.mp h, .inr (.inl ⟨base, size, rfl⟩)⟩
    | clearFault axis d => exact ⟨tag, axis, axisOfByte_eq_some.mp h, .inr (.inr ⟨d, rfl⟩)⟩
    | _ => cases h

/-- With no command waiting the end of a read is all. -/
theorem resumeCommand_of_none {s u : State} {a : AxisId} (hu : u.admin = s.admin) (h : ∀ c, ¬ WaitsFor s a c) :
    resumeCommand a u = u := by
  unfold resumeCommand
  rw [hu]
  split
  · next c hs hc =>
    exact if_neg fun ha => h c (waitsFor_iff.mpr ⟨hs, hc, ha⟩)
  · rfl

/-- A command that waited is tested and takes effect once the read has left u (R149, R174). -/
theorem resumeCommand_of_waits {s u : State} {a : AxisId} {c : AdminCommand} (hu : u.admin = s.admin)
    (h : WaitsFor s a c) (hr : (u.axis a).state = .tripped → (u.axis a).tripRecord ≠ none) :
    resumeCommand a u = ended (waitedCommand c a u).1 (waitedCommand c a u).2 := by
  obtain ⟨hs, hc, hring⟩ := waitsFor_iff.mp h
  obtain ⟨_, _, tag, axis, ha, hbody⟩ := h
  unfold resumeCommand
  rw [hu, hs, hc]
  dsimp only
  rw [if_pos hring]
  rcases hbody with rfl | ⟨base, size, rfl⟩ | ⟨d, rfl⟩
  · exact runStartAxis_eq ha tag u
  · exact runSetAxisRing_eq ha tag u base size
  · exact runClearFault_eq ha tag u d fun hn => hr (tripped_of_clearRefused u hn)

/-- A command that waited changes its axis and drops reports to it, and nothing else. -/
theorem waitedCommand_frame (c : AdminCommand) (a : AxisId) (s : State) :
    ∃ axes reports, (waitedCommand c a s).1 = { s with axes := axes, reports := reports } := by
  unfold waitedCommand
  dsimp only
  split
  · split
    · exact ⟨_, _, rfl⟩
    · exact ⟨_, _, rfl⟩
  · split_ifs <;> exact ⟨_, _, rfl⟩
  · split
    · exact ⟨_, _, rfl⟩
    · split
      · exact ⟨_, _, rfl⟩
      · exact ⟨_, _, rfl⟩
      · exact ⟨_, _, rfl⟩
  · exact ⟨_, _, rfl⟩

theorem steady_ended {s : State} (done : Completion) (h : Steady s) : Steady (ended s done) := by
  unfold ended
  rw [handedOver_eq]
  refine ⟨fun hp => ?_, h.2⟩
  show (s.comp.handed s.part [done]).reservations ≠ 0
  rw [handed_reservations _ _ (by rw [show s.part = .quiescing from hp]; decide)]
  exact h.1 hp

theorem steady_waitedCommand {s : State} (c : AdminCommand) (a : AxisId) (h : Steady s) :
    Steady (ended (waitedCommand c a s).1 (waitedCommand c a s).2) := by
  obtain ⟨axes, reports, frame⟩ := waitedCommand_frame c a s
  refine steady_ended _ ?_
  rw [frame]
  exact h

/-! ### The end of an axis read (R144, R145) -/

section
variable {s : State} {a : AxisId} {address : Word} {counter : Option Nat}

/-- The part after an axis read has resolved with nothing placed: its reservation is released (R140). -/
def axisReadDropped (s : State) : State :=
  { s with readTxn := none, comp := { s.comp with reservations := s.comp.reservations - 1 } }

/-- Reservations released outside RESETTING, with one still held: no quiesce ends by it. -/
theorem steady_released {u : State} {n : Nat} (hl : u.live = true) (hq : u.part = .quiescing → n < u.comp.reservations)
    {v : State} (hp : v.part = u.part) (hv : v.comp.reservations = u.comp.reservations - n) : Steady v := by
  refine ⟨fun h => ?_, fun h => absurd (hp ▸ h) (live_iff.mp hl).2⟩
  have := hq (hp ▸ h)
  rw [hv]
  omega

theorem steady_axisReadDropped (hl : s.live = true) (hq : s.part = .quiescing → 1 < s.comp.reservations) :
    Steady (axisReadDropped s) := steady_released hl hq rfl rfl

theorem axisReadOk_eq (hl : s.live = true) (hr : s.readTxn = some ⟨.axis a, address, true, counter⟩)
    (record : List Byte) : axisReadOk record s = resumeCommand a (if s.activeAxis a = true ∧ s.part = .running then
      { s.setAxis a { s.axis a with
          fifo := (s.axis a).fifo ++ [decodeSegment record]
          consumer := nextIndex (s.axis a).ringSize (s.axis a).consumer } with readTxn := none }
      else axisReadDropped s) := by
  have awake := (live_iff.mp hl).2
  unfold axisReadOk
  rw [hr]
  dsimp only
  rw [if_neg awake]
  congr 1
  unfold placeRecord
  by_cases h : s.activeAxis a = true ∧ s.part = .running
  · have placed : (s.activeAxis a && s.part == .running) = true := by simp [h]
    rw [if_pos h]
    exact if_pos placed
  · have dropped : ¬ (s.activeAxis a && s.part == .running) = true := by simpa using h
    rw [if_neg h]
    exact if_neg dropped

theorem axisReadFails_eq (hl : s.live = true) (hr : s.readTxn = some ⟨.axis a, address, true, counter⟩)
    (kind : FaultKind) : axisReadFails kind s = resumeCommand a (reportTaken a .fetchFault
      (axisReadDropped (faulted (FaultBit.transaction (.axis a) kind).position s))) := by
  have awake := (live_iff.mp hl).2
  unfold axisReadFails
  rw [hr]
  dsimp only
  rw [if_neg awake, fetchFault, takeReport_eq, recordFault_eq]
  rfl

theorem portTimesOut_axisRead (hr : s.readTxn = some ⟨.axis a, address, true, counter⟩) (hc : counter ≠ none) :
    portTimesOut .read s = axisReadFails .timeout s := by
  obtain ⟨n, rfl⟩ := Option.ne_none_iff_exists'.mp hc
  unfold portTimesOut
  simp only [hr]
  rfl

end

/-- Settles O26: the command that waited finds the read resolved, whatever became of its record. -/
theorem axisReadReturnPlacesOrDrops : Obligations.AxisReadReturnPlacesOrDrops := by
  intro s record a address counter hl hs hr
  refine ⟨fun hn ha hp hz => ?_, fun hd hq => ⟨fun hn => ?_, fun c hc hrec => ?_⟩⟩
  · refine next_of_settle (u := axisReadOk record s) rfl (steady_of_running hp) ?_
    rw [axisReadOk_eq hl hr, if_pos ⟨ha, hp⟩, nextIndex, if_neg hz]
    exact resumeCommand_of_none rfl hn
  · have dropped : axisReadOk record s = axisReadDropped s := by
      rw [axisReadOk_eq hl hr, if_neg fun h => hd.elim (fun k => by rw [h.1] at k; cases k) (absurd h.2 ·)]
      exact resumeCommand_of_none rfl hn
    exact next_of_settle (u := axisReadOk record s) rfl (steady_axisReadDropped hl hq) dropped
  · refine next_of_settle (u := axisReadOk record s) rfl (steady_waitedCommand c a (steady_axisReadDropped hl hq)) ?_
    rw [axisReadOk_eq hl hr, if_neg fun h => hd.elim (fun k => by rw [h.1] at k; cases k) (absurd h.2 ·)]
    exact resumeCommand_of_waits rfl hc hrec

/-- A report taken for an inactive axis leaves the admin unit and the axis a trip record if it is TRIPPED. -/
theorem reportTaken_of_inactive {s : State} {a : AxisId} (c : TripCause) (hl : s.live = true)
    (ha : s.activeAxis a = false) (hr : (s.axis a).state = .tripped → (s.axis a).tripRecord ≠ none) :
    ((reportTaken a c s).axis a).state = .tripped → ((reportTaken a c s).axis a).tripRecord ≠ none := by
  rcases reportTaken_cases a c hl with ⟨_, he⟩ | ⟨tripped, he⟩ | ⟨active, _⟩
  · rw [he]
    exact hr
  · intro _
    obtain ⟨r, h⟩ := Option.ne_none_iff_exists'.mp (hr tripped)
    rw [he, axis_setAxis_self, h]
    exact nofun
  · rw [State.activeAxis, active] at ha
    cases ha

/-! ### The end of an administrative read (R146, R172) -/

section
variable {s : State} {address : Word} {reserved : Bool} {counter : Option Nat}

theorem releaseRead_eq (t : ReadTxn) (s : State) : releaseRead t s =
    { s with comp := { s.comp with reservations := s.comp.reservations - t.reserved.toNat } } := by
  unfold releaseRead
  cases t.reserved <;> rfl

theorem adminReadFails_eq (hl : s.live = true) (hr : s.readTxn = some ⟨.admin, address, reserved, counter⟩)
    (kind : FaultKind) : adminReadFails kind s = { faulted (FaultBit.transaction .admin kind).position s with
      readTxn := none
      icause := (faulted (FaultBit.transaction .admin kind).position s).icause ||| 0b001000#6
      admin := { s.admin with state := .halted, haltReason := .fetchFault }
      comp := { s.comp with reservations := s.comp.reservations - reserved.toNat } } := by
  have awake := (live_iff.mp hl).2
  unfold adminReadFails
  rw [hr]
  dsimp only
  rw [if_neg awake, releaseRead_eq, recordFault_eq]
  rfl

theorem portTimesOut_adminRead (hr : s.readTxn = some ⟨.admin, address, reserved, counter⟩) (hc : counter ≠ none) :
    portTimesOut .read s = adminReadFails .timeout s := by
  obtain ⟨n, rfl⟩ := Option.ne_none_iff_exists'.mp hc
  unfold portTimesOut
  simp only [hr]
  rfl

end

/-- An axis read that has failed: its report is taken, and the command that waited then takes effect. -/
theorem axisRead_failure {s : State} {a : AxisId} {bit : Nat} {o : Host.Outcome State Fault Refusal}
    (hl : s.live = true) (hq : s.part = .quiescing → 1 < s.comp.reservations)
    (ho : o = .next (settle (resumeCommand a (reportTaken a .fetchFault (axisReadDropped (faulted bit s)))))) :
    ((∀ c, ¬ WaitsFor s a c) → ∃ t, o = .next t ∧
      Settles (reportTaken a .fetchFault (axisReadDropped (faulted bit s))) t) ∧
    ∀ c, WaitsFor s a c → s.activeAxis a = false →
      ((s.axis a).state = .tripped → (s.axis a).tripRecord ≠ none) → ∃ t, o = .next t ∧
      Settles (ended (waitedCommand c a (reportTaken a .fetchFault (axisReadDropped (faulted bit s)))).1
        (waitedCommand c a (reportTaken a .fetchFault (axisReadDropped (faulted bit s)))).2) t := by
  have admin : (reportTaken a .fetchFault (axisReadDropped (faulted bit s))).admin = s.admin := by
    rw [← takeReport_eq ⟨a, .fetchFault⟩]
    exact (AxisSide.takeReport _ _).admin
  have steady : Steady (reportTaken a .fetchFault (axisReadDropped (faulted bit s))) :=
    steady_reportTaken a _ (steady_axisReadDropped (s := faulted bit s) hl hq)
  refine ⟨fun hn => next_of_settle ho steady (resumeCommand_of_none admin hn), fun c hc ha hr =>
    next_of_settle ho (steady_waitedCommand c a steady) (resumeCommand_of_waits admin hc ?_)⟩
  exact reportTaken_of_inactive (s := axisReadDropped (faulted bit s)) _ hl ha hr

/-- Settles O28: an error and a timeout leave the same but for the bit of their fault. -/
theorem readFailuresReportAndHalt : Obligations.ReadFailuresReportAndHalt := by
  intro s address counter hl hs
  refine ⟨fun a hr hq => ⟨axisRead_failure hl hq ?_, fun hc => axisRead_failure hl hq ?_⟩, fun reserved hr hq =>
    ⟨next_of_settle (u := adminReadFails .error s) rfl ?_ (adminReadFails_eq hl hr _), fun hc =>
      next_of_settle (u := portTimesOut .read s) rfl ?_ ((portTimesOut_adminRead hr hc).trans (adminReadFails_eq hl hr _))⟩⟩
  · exact congrArg (fun u => Host.Outcome.next (settle u)) (axisReadFails_eq hl hr .error)
  · exact congrArg (fun u => Host.Outcome.next (settle u))
      ((portTimesOut_axisRead hr hc).trans (axisReadFails_eq hl hr .timeout))
  · exact steady_released hl hq rfl rfl
  · exact steady_released hl hq rfl rfl

/-! ### The return of an administrative read (R146, R172, R176) -/

theorem adminReadOk_eq {s : State} {t : ReadTxn} (hl : s.live = true) (hr : s.readTxn = some t) (ht : t.ring = .admin)
    (record : List Byte) :
    adminReadOk record s = returnedCommand (decodeCommand record) t.reserved { s with readTxn := none } := by
  unfold adminReadOk
  rw [hr]
  dsimp only
  rw [ht]
  exact if_neg (live_iff.mp hl).2

/-- The OK return of an administrative read is the command its record carries (R172). -/
theorem adminReadOk_of_returns {s : State} (h : CommandReturns s) (record : List Byte) :
    adminReadOk record s = takeCommand (decodeCommand record) s := by
  obtain ⟨low, running, _, fetching, _, read⟩ := h
  have live : s.live = true := live_iff.mpr ⟨low, by rw [running]; decide⟩
  obtain ⟨t, ht, fields⟩ := Option.map_eq_some_iff.mp read
  obtain ⟨ring, _⟩ := Prod.mk.inj fields
  rw [adminReadOk_eq live ht ring]
  unfold takeCommand
  rw [live, fetching, ht]
  exact (if_pos ring).symm

/-- A command's own row (Table 12-3). -/
theorem exec_commandRow {tag : Half} {body : AdminBody} {i : Instr} (h : commandRow tag body = some i) (s : State) :
    exec i s = .next (settle (takeCommand ⟨tag, body⟩ s)) := by
  cases body
  case unknown => cases h
  all_goals
    obtain rfl := Option.some.inj h
    rfl

theorem opcodeOk_of_commandRow {tag : Half} {body : AdminBody} {i : Instr} (h : commandRow tag body = some i) :
    body.opcodeOk = true := by
  cases body
  case unknown => cases h
  all_goals rfl

/-- A record is a SET_COMPLETION_RING exactly if its opcode is (R176, Table 12-3). -/
theorem movesRing_decodeCommand {record : List Byte} (h : record.getD 2 0 ≠ 0x01#8) :
    ¬ (decodeCommand record).movesRing = true := by
  have opcode : byteAt record 2 ≠ 1#8 := h
  unfold AdminCommand.movesRing decodeCommand decodeBody
  dsimp only
  rw [if_neg opcode]
  split_ifs <;> exact not_false

/-- Settles O27: decoding gives back the command whose row it is, so row and returned record do the same. -/
theorem adminReadReturnHandsCommandOver : Obligations.AdminReadReturnHandsCommandOver := by
  intro s tag
  refine ⟨fun h body i hi => ?_, fun h opcode ho => ?_, fun record address reserved counter hl hr =>
    ⟨fun hp hq => ?_, fun hp hz hn => ?_⟩⟩
  · rw [exec_commandRow hi, ← decodeCommand_encodeCommand ⟨tag, body⟩ (opcodeOk_of_commandRow hi),
      ← adminReadOk_of_returns h, decodeCommand_encodeCommand ⟨tag, body⟩ (opcodeOk_of_commandRow hi)]
    rfl
  · have ok : AdminBody.opcodeOk (.unknown opcode) = true := by
      rcases ho with ho | ho
      · have : opcode = 0 := BitVec.eq_of_toNat_eq ho
        rw [this]; rfl
      · simp [AdminBody.opcodeOk, ho]
    refine answers_unchanged (c := ⟨tag, .unknown opcode⟩) h ?_ rfl
    show Host.Outcome.next (settle (adminReadOk _ s)) = _
    rw [adminReadOk_of_returns h, decodeCommand_encodeCommand ⟨tag, .unknown opcode⟩ ok]
  · refine next_of_settle (u := adminReadOk record s) rfl (steady_released hl hq rfl rfl) ?_
    rw [adminReadOk_eq hl hr rfl]
    refine (if_pos hp).trans ?_
    cases reserved <;> rfl
  · refine next_of_settle (u := adminReadOk record s) rfl (steady_of_running hp) ?_
    rw [adminReadOk_eq hl hr rfl]
    exact (if_neg (not_not_intro hp)).trans (if_pos ⟨hz, movesRing_decodeCommand hn⟩)

end Sys2Proof.Machine
end

section
/-! The responses at the host memory port: completion writes and snapshot writes (chapters 9 and 10). -/

namespace Sys2Proof.Machine

/-! ### A completion posted (R159, R164) -/

theorem nextIndex_of_lt {size i : Nat} (h : i < size) : nextIndex size i = if i + 1 = size then 0 else i + 1 := by
  rw [nextIndex, if_neg (by omega)]
  split
  · next he => rw [he, Nat.mod_self]
  · next hn => exact Nat.mod_eq_of_lt (by omega)

/-- The coalescing rules (R164, R165). -/
theorem coalesce_eq (status : Status) (s : State) : coalesce status s =
    let count := s.comp.coalescingCount + 1
    let signal := status ≠ .ok ∨ s.globals.k ≤ count
    { s with
      icause := if signal then s.icause ||| 0b000001#6 else s.icause
      comp := { s.comp with
        coalescingCount := if signal then 0 else count
        coalescingTimer := if signal then none
          else if count = 1 ∧ s.globals.w ≠ 0 then some s.globals.w
          else s.comp.coalescingTimer } } := by
  unfold coalesce
  by_cases h : status = .ok
  · by_cases hk : s.globals.k ≤ s.comp.coalescingCount + 1
    · simp only [h, hk, if_true, or_true]
      rfl
    · simp only [h, hk, if_true, if_false, or_false, ne_eq, not_true_eq_false]
  · simp only [h, if_false, if_true, ne_eq, not_false_eq_true, true_or]
    rfl

/-- Settles O29: the head leaves the queue as the producer index advances, and the record coalesces (`coalesce_eq`). -/
theorem completionWriteOkPostsHead : Obligations.CompletionWriteOkPostsHead := by
  intro s address data counter c rest hl hf hw hc hp hq
  have awake := (live_iff.mp hl).2
  refine next_of_settle (u := completionOk s) rfl (steady_released hl hq rfl rfl) ?_
  have wraps : s.comp.ringSize ≤ s.comp.producer + 1 ↔ s.comp.producer + 1 = s.comp.ringSize := by omega
  unfold completionOk
  rw [hw]
  dsimp only
  rw [if_neg (not_or.mpr ⟨awake, hf⟩), postHead, hc]
  dsimp only
  rw [coalesce_eq]
  simp only [releaseReservations, CompletionUnit.advance, nextIndex_of_lt hp, wraps]

/-! ### The part fails (R160, R161, R195) -/

/-- The part as it enters FAILED (R195), the admin unit and the reservations left given. -/
def failedPart (s : State) (left : Nat) (admin : AdminUnit) : State :=
  { s with
    part := .failed, writeTxn := none, icause := s.icause ||| 0b100000#6, meas := { s.meas with busTimer := none }
    admin := admin
    comp := { s.comp with queue := [], reservations := left, coalescingCount := 0, coalescingTimer := none }
    reports := s.reports ++ [⟨0, .postFault⟩, ⟨1, .postFault⟩, ⟨2, .postFault⟩, ⟨3, .postFault⟩] }

theorem abandonSnapshot_of_issued {s : State} (h : ¬ ∃ w ∈ s.admin.snapshot, w.issued = false) :
    abandonSnapshot s = s := by
  unfold abandonSnapshot
  split
  · next hs => exact absurd ⟨_, hs, rfl⟩ h
  · rfl

theorem abandonSnapshot_of_unissued {s : State} (h : ∃ w ∈ s.admin.snapshot, w.issued = false) :
    abandonSnapshot s = releaseReservations 1
      { s with admin := { s.admin with state := .waiting, current := none, snapshot := none } } := by
  obtain ⟨⟨address, data, formedAt, issued⟩, hw, hi⟩ := h
  obtain rfl : issued = false := hi
  unfold abandonSnapshot
  rw [Option.mem_def.mp hw]

/-- Entry into FAILED (R195), by whether a snapshot waits for the channel (R188). -/
theorem enterFailed_eq (s : State) :
    (¬ (∃ w ∈ s.admin.snapshot, w.issued = false) → enterFailed s =
      { failedPart s (s.comp.reservations - s.comp.queue.length) s.admin with writeTxn := s.writeTxn }) ∧
    ((∃ w ∈ s.admin.snapshot, w.issued = false) → enterFailed s =
      { failedPart s (s.comp.reservations - s.comp.queue.length - 1)
          { s.admin with state := .waiting, current := none, snapshot := none } with writeTxn := s.writeTxn }) := by
  refine ⟨fun hn => ?_, fun hu => ?_⟩
  · have kept : abandonSnapshot (discardPending { s with part := .failed }) = discardPending { s with part := .failed } :=
      abandonSnapshot_of_issued hn
    rw [enterFailed, kept]
    rfl
  · have abandoned := abandonSnapshot_of_unissued (s := discardPending { s with part := .failed }) hu
    rw [enterFailed, abandoned]
    rfl

/-- A failed completion write (R160), by whether a snapshot waits for the channel (R188). -/
theorem completionFails_eq {s : State} {address : Word} {data : List Byte} {counter : Option Nat} (hl : s.live = true)
    (hw : s.writeTxn = some ⟨.completion, address, data, counter⟩) (kind : FaultKind) :
    (¬ (∃ w ∈ s.admin.snapshot, w.issued = false) → completionFails kind s =
      failedPart (faulted (FaultBit.transaction .completion kind).position s)
        (s.comp.reservations - s.comp.queue.length) s.admin) ∧
    ((∃ w ∈ s.admin.snapshot, w.issued = false) → completionFails kind s =
      failedPart (faulted (FaultBit.transaction .completion kind).position s)
        (s.comp.reservations - s.comp.queue.length - 1)
        { s.admin with state := .waiting, current := none, snapshot := none }) := by
  have awake := (live_iff.mp hl).2
  have fails : completionFails kind s = enterFailed (faulted (FaultBit.transaction .completion kind).position
      { s with writeTxn := none }) := by
    unfold completionFails
    rw [hw, ← recordFault_eq]
    exact if_neg awake
  obtain ⟨issued, unissued⟩ := enterFailed_eq (faulted (FaultBit.transaction .completion kind).position
    { s with writeTxn := none })
  rw [fails]
  exact ⟨issued, unissued⟩

theorem portTimesOut_completionWrite {s : State} {address : Word} {data : List Byte} {counter : Option Nat}
    (hw : s.writeTxn = some ⟨.completion, address, data, counter⟩) (hc : counter ≠ none) :
    portTimesOut .write s = completionFails .timeout s := by
  obtain ⟨n, rfl⟩ := Option.ne_none_iff_exists'.mp hc
  unfold portTimesOut
  simp only [hw]
  rfl

theorem steady_failedPart (s : State) (left : Nat) (admin : AdminUnit) : Steady (failedPart s left admin) :=
  ⟨nofun, nofun⟩

/-- Settles O30: an error and a timeout leave the same but for the bit of their fault. -/
theorem completionWriteFailureFailsPart : Obligations.CompletionWriteFailureFailsPart := by
  intro s address data counter hl hw
  obtain ⟨issued, unissued⟩ := completionFails_eq hl hw .error
  obtain ⟨issued', unissued'⟩ := completionFails_eq hl hw .timeout
  refine ⟨⟨fun hn => ?_, fun hu => ?_⟩, fun hc => ⟨fun hn => ?_, fun hu => ?_⟩⟩
  · exact next_of_settle (u := completionFails .error s) rfl (steady_failedPart _ _ _) (issued hn)
  · exact next_of_settle (u := completionFails .error s) rfl (steady_failedPart _ _ _) (unissued hu)
  · exact next_of_settle (u := portTimesOut .write s) rfl (steady_failedPart _ _ _)
      ((portTimesOut_completionWrite hw hc).trans (issued' hn))
  · exact next_of_settle (u := portTimesOut .write s) rfl (steady_failedPart _ _ _)
      ((portTimesOut_completionWrite hw hc).trans (unissued' hu))

/-! ### The response to a snapshot write (R188) -/

section
variable {s : State} {address : Word} {data : List Byte} {counter : Option Nat} {w : SnapshotWork} {c : AdminCommand}

/-- The part after READ_AXIS has ended with its completion (R161, R188). -/
def readAxisEnded (s u : State) (done : Completion) : State :=
  { u with
    writeTxn := none
    admin := { s.admin with state := .waiting, current := none, snapshot := none }
    comp := if s.part = .failed then { s.comp with reservations := s.comp.reservations - 1 }
      else { s.comp with queue := s.comp.queue ++ [done] } }

theorem handed_one {comp : CompletionUnit} (part : PartState) (done : Completion) (h : comp.ringSize ≠ 0) :
    comp.handed part [done] = if part = .failed then { comp with reservations := comp.reservations - 1 }
      else { comp with queue := comp.queue ++ [done] } := if_neg h

theorem snapshotOk_eq (hl : s.live = true) (hz : s.comp.ringSize ≠ 0)
    (hw : s.writeTxn = some ⟨.snapshot, address, data, counter⟩) (hs : s.admin.snapshot = some w)
    (hc : s.admin.current = some c) :
    snapshotOk s = readAxisEnded s s (okCompletion c.tag (.readAxis w.formedAt)) := by
  have tag : s.admin.currentTag = c.tag := by rw [AdminUnit.currentTag, hc]; rfl
  unfold snapshotOk
  rw [hw, hs]
  dsimp only
  rw [if_neg (live_iff.mp hl).2, finishCommand_eq, ended, handedOver_eq, tag]
  dsimp only
  rw [handed_one _ _ hz]
  rfl

theorem snapshotFails_eq (hl : s.live = true) (hz : s.comp.ringSize ≠ 0)
    (hw : s.writeTxn = some ⟨.snapshot, address, data, counter⟩) (hs : s.admin.snapshot = some w)
    (hc : s.admin.current = some c) (kind : FaultKind) :
    snapshotFails kind s = readAxisEnded s (faulted (FaultBit.transaction .snapshot kind).position s)
      ⟨c.tag, .admin, .writeFault, .none, .admin .zero⟩ := by
  have tag : s.admin.currentTag = c.tag := by rw [AdminUnit.currentTag, hc]; rfl
  unfold snapshotFails
  rw [hw, hs]
  dsimp only
  rw [if_neg (live_iff.mp hl).2, recordFault_eq, finishCommand_eq, ended, handedOver_eq, tag]
  dsimp only [faulted]
  rw [handed_one _ _ hz]
  rfl

theorem portTimesOut_snapshotWrite (hw : s.writeTxn = some ⟨.snapshot, address, data, counter⟩)
    (hc : counter ≠ none) : portTimesOut .write s = snapshotFails .timeout s := by
  obtain ⟨n, rfl⟩ := Option.ne_none_iff_exists'.mp hc
  unfold portTimesOut
  simp only [hw]
  rfl

theorem steady_readAxisEnded {u : State} (done : Completion) (hl : s.live = true) (hp : u.part = s.part)
    (hq : s.part = .quiescing → s.comp.reservations ≠ 0) : Steady (readAxisEnded s u done) := by
  refine ⟨fun h => ?_, fun h => absurd (hp ▸ h) (live_iff.mp hl).2⟩
  have quiescing : s.part = .quiescing := hp ▸ h
  have part : ¬ s.part = .failed := by rw [quiescing]; decide
  show CompletionUnit.reservations (if s.part = .failed then _ else _) ≠ 0
  rw [if_neg part]
  exact hq quiescing

end

theorem portTimesOut_of_none (channel : Channel) {s : State} (h : match channel with
    | .read => s.readTxn.bind (·.counter) = none
    | .write => s.writeTxn.bind (·.counter) = none) : portTimesOut channel s = s := by
  unfold portTimesOut
  cases channel with
  | read =>
    dsimp only at h ⊢
    split
    · next t ht =>
      rw [ht] at h
      exact if_pos (by rw [show t.counter = none from h]; rfl)
    · rfl
  | write =>
    dsimp only at h ⊢
    split
    · next t ht =>
      rw [ht] at h
      exact if_pos (by rw [show t.counter = none from h]; rfl)
    · rfl

/-- Settles O31: each response of a snapshot write ends READ_AXIS; an unloaded counter leaves the state as it was. -/
theorem snapshotAndLateResponses : Obligations.SnapshotAndLateResponses := by
  intro s
  refine ⟨fun _ => rfl, fun hs h => ?_, fun hs h => ?_, fun address data counter w c hl hz hw hsnap hc hq =>
    ⟨?_, ?_, fun hcount => ?_⟩⟩
  · exact next_of_settle (u := portTimesOut .read s) rfl hs (portTimesOut_of_none .read h)
  · exact next_of_settle (u := portTimesOut .write s) rfl hs (portTimesOut_of_none .write h)
  · exact next_of_settle (u := snapshotOk s) rfl (steady_readAxisEnded _ hl rfl hq) (snapshotOk_eq hl hz hw hsnap hc)
  · exact next_of_settle (u := snapshotFails .error s) rfl (steady_readAxisEnded _ hl rfl hq)
      (snapshotFails_eq hl hz hw hsnap hc .error)
  · exact next_of_settle (u := portTimesOut .write s) rfl (steady_readAxisEnded _ hl rfl hq)
      ((portTimesOut_snapshotWrite hw hcount).trans (snapshotFails_eq hl hz hw hsnap hc .timeout))

end Sys2Proof.Machine
end

section
/-! The timers, the timebase and the converter (chapters 5, 7 and 11). -/

namespace Sys2Proof.Machine

/-! ### Group timers and the trips of members (R85 to R87) -/

theorem mem_groupIds : ∀ g : GroupId, g ∈ groupIds := by decide

/-- Settles O32: the expiry is the group's own event, and a member's trip breaks its groups as `trippedAt` says. -/
theorem groupFailuresTripArrivedAxes : Obligations.GroupFailuresTripArrivedAxes := by
  intro s g hl hs
  refine ⟨fun hn => ?_, fun hg ht => ?_, fun a cause ha => ?_⟩
  · refine next_of_settle (u := groupTimeout g s) rfl hs (if_neg fun h => ?_)
    simp only [hl, Bool.true_and, Bool.and_eq_true, beq_iff_eq, Option.isSome_iff_ne_none] at h
    exact hn.elim (absurd h.1 ·) h.2
  · refine next_of_settle (u := groupTimeout g s) rfl hs ?_
    unfold groupTimeout
    simp only [hl, hg, Option.isSome_iff_ne_none.mpr ht]
    rfl
  · let v : State := { s with reports := s.reports.erase ⟨a, cause⟩ }
    have taken : takeAxisReport ⟨a, cause⟩ s = reportTaken a cause v := takeAxisReport_of_live _ hl
    obtain ⟨t, ht, settles⟩ := next_of_settle (o := exec (.axisTrip a cause) s) rfl
      (steady_reportTaken (s := v) a cause hs) taken
    rw [reportTaken_of_active (s := v) cause hl ha] at settles
    have axis : ∀ b, t.axis b = if b = a then (s.axis a).afterTrip cause s.timebase else s.axis b := fun b =>
      (axis_congr (by rw [settles.frame]) b).trans (axis_trippedAt a b cause v)
    have group : t.group g = if Breaks (s.group g) a then (s.group g).broken else s.group g :=
      (group_congr (by rw [settles.frame]) g).trans (group_trippedAt a cause v g)
    have reports : t.reports = v.reports ++ brokenReports s a := by rw [settles.frame]; rfl
    have here : t.axis a = (s.axis a).afterTrip cause s.timebase := by rw [axis, if_pos rfl]
    refine ⟨t, ht, by rw [here]; rfl, by rw [here]; rfl, fun b hb => by rw [axis, if_neg hb], fun hg hm =>
      ⟨by rw [group, if_pos ⟨hg, hm⟩]; rfl, fun b hb harr => ?_⟩, fun hn => ?_⟩
    · rw [reports]
      refine List.mem_append_right _ (List.mem_flatMap.mpr ⟨g, mem_groupIds g, ?_⟩)
      rw [breakReports, if_pos ⟨hg, hm⟩]
      exact List.mem_map.mpr ⟨b, List.mem_filter.mpr ⟨mem_axesOf.mpr harr, by simpa using hb⟩, rfl⟩
    · rw [group, if_neg fun hb => hn.elim (absurd hb.1 ·) fun k => by rw [hb.2] at k; cases k]

/-! ### Coalescing and bus timers (R119, R164) -/

theorem occupied_iff (m : Measurement) (src : ConvSource) :
    m.occupied src = true ↔ src ∈ m.queue.map (·.source) := by
  simp only [Measurement.occupied, List.any_eq_true, beq_iff_eq, List.mem_map]

/-- A request that joins the queue, its conversion beginning at once where the queue was empty (R117). -/
theorem join_eq (m : Measurement) (src : ConvSource) : m.join src = { m with
    elapsed := if m.queue = [] then 0 else m.elapsed
    queue := m.queue ++ [⟨src, false, if m.queue = [] then src.firstProgress else .waiting⟩] } := by
  unfold Measurement.join
  split
  · next h => simp [h]
  · next h => simp [h]

/-- Settles O33, by whether each timer runs; a bus request joins the queue only where none is there. -/
theorem coalescingAndBusTimerExpiry : Obligations.CoalescingAndBusTimerExpiry := by
  intro s hl hs
  refine ⟨fun h => ?_, fun h => ?_, fun h => ?_, fun h => ?_⟩
  · refine next_of_settle (u := coalescingExpires s) rfl hs ?_
    unfold coalescingExpires
    rw [hl, Option.isSome_iff_ne_none.mpr h]
    rfl
  · refine next_of_settle (u := coalescingExpires s) rfl hs ?_
    unfold coalescingExpires
    rw [hl, h]
    rfl
  · refine next_of_settle (u := busTimerExpires s) rfl hs ?_
    unfold busTimerExpires busRequest
    rw [hl, Option.isSome_iff_ne_none.mpr h]
    by_cases hq : s.meas.queue = []
    · have free : s.meas.occupied .bus = false := by simp [Measurement.occupied, hq]
      simp only [free, join_eq, hq]
      rfl
    · by_cases hm : ConvSource.bus ∈ s.meas.queue.map (·.source)
      · simp only [(occupied_iff s.meas .bus).mpr hm, hq, hm, if_true, if_false]
        rfl
      · simp only [Bool.eq_false_iff.mpr fun e => hm ((occupied_iff s.meas .bus).mp e), join_eq, hq, hm, if_false]
        rfl
  · refine next_of_settle (u := busTimerExpires s) rfl hs ?_
    unfold busTimerExpires
    rw [hl, h]
    rfl

/-! ### The timebase (R84, R200) -/

theorem mem_timers (x : Timer) : x ∈ timers := by
  cases x with
  | group g => exact List.mem_append_left _ (List.mem_map.mpr ⟨g, mem_groupIds g, rfl⟩)
  | coalescing => decide
  | bus => decide
  | port channel => cases channel <;> decide

/-- The timers that expire with an increment. -/
theorem mem_expiring {u : State} {x : Timer} :
    x ∈ timers.filter (fun t => timeLeft u t == some 0) ↔ timeLeft u x = some 0 := by
  simp only [List.mem_filter, mem_timers, true_and, beq_iff_eq]

theorem nodup_expiring (u : State) : (timers.filter fun t => timeLeft u t == some 0).Nodup :=
  List.Nodup.filter _ (by decide)

/-- An event that is settled already ends as it is. -/
theorem settle_settle (s : State) : settle (settle s) = settle s := settle_of_nothingDue (nothingDue_settle s)

theorem exec_expiryRow (x : Timer) (s : State) : exec (expiryRow x) s = .next (settle (expire x s)) := by
  cases x <;> rfl

/-- An increment outside reset (R200). -/
theorem exec_timebaseIncrement {s : State} (hr : s.resetLow = false) (due : List Timer)
    (hd : timers.filter (fun t => timeLeft (microsecondLater s) t == some 0) = due) :
    exec .timebaseIncrement s = .next (settle (takeInOrder expireEvent due.length due (microsecondLater s))) := by
  subst hd
  show Host.Outcome.next (settle (timebaseEvent s)) = _
  rw [timebaseEvent, hr]
  rfl

/-- Settles O34: the timers that reach 0 are taken in the order that freeCount gives. -/
theorem timebaseIncrementRunsTimers : Obligations.TimebaseIncrementRunsTimers := by
  intro s hs
  refine ⟨fun hr => next_of_settle (u := timebaseEvent s) rfl hs (if_pos hr), fun hr hn => ?_, fun hr x hx hn => ?_,
    fun hr x y hxy hx hy hn => ?_⟩
  · have none_due : timers.filter (fun t => timeLeft (microsecondLater s) t == some 0) = [] :=
      List.eq_nil_iff_forall_not_mem.mpr fun x hx => hn x (mem_expiring.mp hx)
    refine next_of_settle (exec_timebaseIncrement hr [] none_due) ⟨hs.1, fun hp => ?_⟩ rfl
    exact (hs.2 hp).imp (fun h e => h (Option.map_eq_none_iff.mp e)) fun h e => h (Option.map_eq_none_iff.mp e)
  · have one : timers.filter (fun t => timeLeft (microsecondLater s) t == some 0) = [x] :=
      List.perm_singleton.mp ((List.perm_ext_iff_of_nodup (nodup_expiring _) (List.nodup_singleton x)).mpr fun y => by
        rw [mem_expiring, List.mem_singleton]
        exact ⟨fun hy => by_contra fun hne => hn y hne hy, fun h => h ▸ hx⟩)
    rw [exec_timebaseIncrement hr [x] one, exec_expiryRow]
    show Host.Outcome.next (settle (takeInOrder expireEvent 1 [x] _)) = _
    rw [takeInOrder_singleton, expireEvent, settle_settle]
  · have two : (timers.filter fun t => timeLeft (microsecondLater s) t == some 0).Perm [x, y] :=
      (List.perm_ext_iff_of_nodup (nodup_expiring _) (by simpa using hxy)).mpr fun z => by
        rw [mem_expiring]
        simp only [List.mem_cons, List.not_mem_nil, or_false]
        exact ⟨hn z, fun h => h.elim (fun e => e ▸ hx) fun e => e ▸ hy⟩
    obtain ⟨d, e, hde⟩ := List.length_eq_two.mp two.length_eq
    rw [hde] at two
    have apart : d ≠ e := by simpa using two.nodup_iff.mpr (by simpa using hxy)
    have order : d = x ∧ e = y ∨ d = y ∧ e = x := by
      have hd : d = x ∨ d = y := by simpa using two.mem_iff.mp List.mem_cons_self
      have he : e = x ∨ e = y := by simpa using two.mem_iff.mp (List.mem_cons_of_mem d List.mem_cons_self)
      rcases hd with rfl | rfl
      · exact .inl ⟨rfl, he.resolve_left apart.symm⟩
      · exact .inr ⟨rfl, he.resolve_right apart.symm⟩
    have follows : ∀ first second, takeInOrder expireEvent 2 [d, e] (microsecondLater s) =
        expireEvent second (expireEvent first
          { microsecondLater s with freeCount := (microsecondLater s).freeCount + 1 }) →
        exec .timebaseIncrement s = exec (expiryRow second) (expireEvent first
          { microsecondLater s with freeCount := (microsecondLater s).freeCount + 1 }) := by
      intro first second h
      rw [exec_timebaseIncrement hr [d, e] hde, exec_expiryRow, ← settle_settle (expire second _)]
      exact congrArg (fun u => Host.Outcome.next (settle u)) h
    rcases takeInOrder_pair expireEvent 0 d e (microsecondLater s) with h | h
    · exact ⟨_, d, e, order, exec_expiryRow _ _, follows d e h⟩
    · exact ⟨_, e, d, order.symm.imp And.symm And.symm, exec_expiryRow _ _, follows e d h⟩

/-! ### Axis results (R117, R122, R123) -/

theorem magnitude_eq (code : BitVec 12) : magnitude code = currentMagnitude code := by
  unfold magnitude currentMagnitude
  omega

theorem nextRun_eq (p : Prop) [Decidable p] (run : Nat) : nextRun (decide p) run = runAfter p run := by
  unfold nextRun runAfter
  by_cases h : p <;> simp [h]

/-- The head's result is taken: the next request begins its conversion (R117). -/
theorem dropHead_eq (s : State) (h : s.meas.queue ≠ []) : { s with meas := s.meas.dropHead } = converterMoved s := by
  unfold converterMoved Measurement.dropHead
  rcases hq : s.meas.queue with _ | ⟨p, _ | ⟨⟨source, stale, progress⟩, rest⟩⟩
  · exact absurd hq h
  · rfl
  · cases source <;> rfl

/-- A processed axis result: the peak current and the overcurrent run (R122, R123). -/
def resultTaken (a : AxisId) (codeU codeV : BitVec 12) (s : State) : State :=
  let x := s.axis a
  let peak := max (currentMagnitude codeU) (currentMagnitude codeV)
  (converterMoved s).setAxis a { x with
    overcurrentRun := runAfter (x.config.currentLimit < peak) x.overcurrentRun
    active := x.active.map fun g => { g with stats := { g.stats with peakCurrent := max g.stats.peakCurrent peak } } }

/-- An axis result at the end of its leg V conversion (R122, R130). -/
theorem takeAxisResult_eq {s : State} {a : AxisId} {stale : Bool} {rest : List ConvRequest} (hl : s.live = true)
    (hq : s.meas.queue = ⟨.axis a, stale, .convertingV⟩ :: rest) (codeU codeV : BitVec 12) :
    takeAxisResult codeU codeV s =
      if stale = true ∨ s.activeAxis a = false ∨ s.part ≠ .running then converterMoved s
      else if (s.axis a).config.n ≤ runAfter ((s.axis a).config.currentLimit <
          max (currentMagnitude codeU) (currentMagnitude codeV)) (s.axis a).overcurrentRun then
        reportTaken a .overcurrent (resultTaken a codeU codeV s)
      else resultTaken a codeU codeV s := by
  have moved := dropHead_eq s (by rw [hq]; exact List.cons_ne_nil _ _)
  have processed : processAxisResult a (magnitude codeU) (magnitude codeV) (converterMoved s) =
      if (s.axis a).config.n ≤ runAfter ((s.axis a).config.currentLimit <
          max (currentMagnitude codeU) (currentMagnitude codeV)) (s.axis a).overcurrentRun then
        reportTaken a .overcurrent (resultTaken a codeU codeV s)
      else resultTaken a codeU codeV s := by
    unfold processAxisResult Axis.axisResult
    simp only [nextRun_eq, magnitude_eq, takeReport_eq]
    rfl
  have discards : (stale || !s.activeAxis a || s.part != .running) = true ↔
      stale = true ∨ s.activeAxis a = false ∨ s.part ≠ .running := by
    simp only [Bool.or_eq_true, Bool.not_eq_true', bne_iff_ne, or_assoc, ne_eq]
  unfold takeAxisResult
  rw [hl, hq]
  show (if (stale || !s.activeAxis a || s.part != .running) = true then { s with meas := s.meas.dropHead }
    else processAxisResult a (magnitude codeU) (magnitude codeV) { s with meas := s.meas.dropHead }) = _
  rw [moved, processed]
  simp only [discards]

/-- Where the head is not converting leg V for an axis no axis result comes (log entry 8). -/
theorem takeAxisResult_of_other {s : State} (h : ∀ q ∈ s.meas.queue.head?, q.source = .bus ∨ q.progress ≠ .convertingV)
    (codeU codeV : BitVec 12) : takeAxisResult codeU codeV s = s := by
  unfold takeAxisResult
  split
  · rfl
  · split
    · next q _ hq =>
      have other := h q (by rw [hq]; exact rfl)
      split
      · next hsource hprogress =>
        rcases other with k | k
        · rw [hsource] at k; cases k
        · exact absurd hprogress k
      · rfl
    · rfl

/-- Where the head is not converting leg U nothing ends (log entry 8). -/
theorem endLegU_of_other {m : Measurement} (h : ∀ q ∈ m.queue.head?, q.progress ≠ .convertingU) : m.endLegU = m := by
  unfold Measurement.endLegU
  split
  · next q _ hq => exact if_neg (h q (by rw [hq]; exact rfl))
  · rfl

/-- Settles O35, by the head of the converter queue: nothing, discarded, below N, or a report at N. -/
theorem axisResultMovesOvercurrentRun : Obligations.AxisResultMovesOvercurrentRun := by
  intro s codeU codeV hl hs
  refine ⟨fun a stale rest hq => ?_, fun hn => ?_, fun a stale rest hq => ⟨fun hd => ?_, fun h1 h2 h3 hr => ?_,
    fun h1 h2 h3 hr => ?_⟩, fun hn => ?_⟩
  · refine next_of_settle (u := legUEnds s) rfl hs ?_
    rw [legUEnds, hl, if_pos rfl, Measurement.endLegU, hq]
    rfl
  · refine next_of_settle (u := legUEnds s) rfl hs ?_
    rw [legUEnds, hl, if_pos rfl, endLegU_of_other hn]
  · refine next_of_settle (u := takeAxisResult codeU codeV s) rfl hs ?_
    rw [takeAxisResult_eq hl hq, if_pos hd]
  · refine next_of_settle (u := takeAxisResult codeU codeV s) rfl (steady_of_running h3) ?_
    rw [takeAxisResult_eq hl hq, if_neg (by simp [h1, h2, h3]), if_neg (Nat.not_le.mpr hr)]
    rfl
  · refine next_of_settle (u := takeAxisResult codeU codeV s) rfl
      (steady_reportTaken (s := resultTaken a codeU codeV s) a _ (steady_of_running h3)) ?_
    rw [takeAxisResult_eq hl hq, if_neg (by simp [h1, h2, h3]), if_pos hr]
    rfl
  · exact next_of_settle (u := takeAxisResult codeU codeV s) rfl hs (takeAxisResult_of_other hn codeU codeV)

/-! ### Bus results (R125 to R127) -/

/-- A change of every axis, one after the other. -/
theorem foldl_modAxis (f : Axis → Axis) (s : State) :
    axisIds.foldl (fun s a => s.modAxis a f) s = { s with axes := Vector.ofFn fun a => f (s.axis a) } := by
  have frame : ∀ (l : List AxisId) (s : State), l.foldl (fun s a => s.modAxis a f) s =
      { s with axes := (l.foldl (fun s a => s.modAxis a f) s).axes } := by
    intro l
    induction l with
    | nil => exact fun s => rfl
    | cons a l ih =>
      intro s
      rw [List.foldl_cons, ih]
      rfl
  have each : ∀ (l : List AxisId) (s : State) (b : AxisId), l.Nodup →
      (l.foldl (fun s a => s.modAxis a f) s).axis b = if b ∈ l then f (s.axis b) else s.axis b := by
    intro l
    induction l with
    | nil => exact fun s b _ => rfl
    | cons a l ih =>
      intro s b hn
      obtain ⟨ha, hl⟩ := List.nodup_cons.mp hn
      rw [List.foldl_cons, ih _ b hl]
      by_cases e : b = a
      · subst e
        simp [ha]
      · simp [e, axis_modAxis_ne]
  rw [frame]
  congr 1
  refine axes_ext (s := { s with axes := Vector.ofFn fun a => f (s.axis a) }) fun b => ?_
  rw [each axisIds s b (by decide), if_pos (mem_axisIds b)]
  show _ = (Vector.ofFn fun a => f (s.axis a))[b]
  simp

theorem nextFlag_eq (p : Prop) [Decidable p] (run f : Nat) (flag : Bool) :
    nextFlag (decide p) run f flag = (decide p && (flag || decide (f ≤ run))) := by
  unfold nextFlag
  by_cases hp : p <;> by_cases hf : f ≤ run <;> simp [hp, hf]

/-- A flag that becomes set reports its cause for the four axes (R106). -/
theorem report_if_becomes (now before : Bool) (cause : TripCause) (s : State) :
    (if (now && !before) = true then report cause axisIds s else s) = { s with
      reports := s.reports ++ if now = true ∧ before = false then
        [⟨0, cause⟩, ⟨1, cause⟩, ⟨2, cause⟩, ⟨3, cause⟩] else [] } := by
  by_cases h : now = true ∧ before = false
  · rw [if_pos h, if_pos (by simp [h])]
    rfl
  · rw [if_neg h, if_neg (by simpa using h), List.append_nil]

/-- Where the head is not the bus's conversion no bus result comes (log entry 8). -/
theorem takeBusResult_of_other {s : State} (h : ∀ q ∈ s.meas.queue.head?, q.source ≠ .bus ∨ q.progress ≠ .convertingBus)
    (code : BitVec 12) : takeBusResult code s = s := by
  unfold takeBusResult
  split
  · rfl
  · split
    · next q _ hq =>
      have other := h q (by rw [hq]; exact rfl)
      split
      · next hsource hprogress => exact other.elim (absurd hsource) (absurd hprogress)
      · rfl
    · rfl

/-- Settles O36: the head leaves the queue, then the code moves the extremes, the runs and the flags. -/
theorem busResultMovesFaultFlags : Obligations.BusResultMovesFaultFlags := by
  intro s code hl hs
  refine ⟨fun stale rest hq => ?_, fun hn =>
    next_of_settle (u := takeBusResult code s) rfl hs (takeBusResult_of_other hn code)⟩
  have moved := dropHead_eq s (by rw [hq]; exact List.cons_ne_nil _ _)
  have taken : takeBusResult code s = processBusResult code.toNat (converterMoved s) := by
    unfold takeBusResult
    rw [hl, hq, ← moved]
    rfl
  refine next_of_settle (u := takeBusResult code s) rfl hs ?_
  rw [taken, processBusResult, foldBusCode, foldl_modAxis]
  simp only [report_if_becomes, nextRun_eq, nextFlag_eq]
  rfl

end Sys2Proof.Machine
end

section
/-! The peak of a carrier: the sample and the sequencer's work (R23, R46, R61). -/

namespace Sys2Proof.Machine

/-! ### The sample a peak asks for (R61, R118, R120) -/

/-- The axis after its carrier has turned at the peak, with the sample counted that is skipped, if it is. -/
def Axis.sampled (x : Axis) (skipped : Bool) : Axis :=
  { x with
    carrierCount := x.workH, rising := false
    active := if skipped then x.active.map (·.countSkip) else x.active }

/-- The sample of axis a is skipped: in RUNNING its last one is still in the queue (R120). -/
def State.skipsSample (s : State) (a : AxisId) : Bool := s.part == .running && s.meas.occupied (.axis a)

/-- The measurement unit after the sample of axis a was asked for. -/
def State.measSampled (s : State) (a : AxisId) : Measurement :=
  if s.part == .running && !s.meas.occupied (.axis a) then s.meas.join (.axis a) else s.meas

theorem peakSampled_eq (a : AxisId) (s : State) : peakSampled a s =
    { s.setAxis a ((s.axis a).sampled (s.skipsSample a)) with meas := s.measSampled a } := by
  unfold peakSampled axisRequest State.skipsSample State.measSampled
  cases hp : s.part == .running
  · rw [if_pos (by simpa using hp)]
    rfl
  · rw [if_neg (by simpa using hp)]
    cases hm : s.meas.occupied (.axis a)
    · rw [if_neg (by simpa using hm)]
      rfl
    · rw [if_pos (by simpa using hm), modAxis_eq, axis_setAxis_self, setAxis_setAxis]
      rfl

theorem axis_peakSampled_self (a : AxisId) (s : State) :
    (peakSampled a s).axis a = (s.axis a).sampled (s.skipsSample a) := by
  rw [peakSampled_eq]
  exact axis_setAxis_self s a _

theorem group_peakSampled (a : AxisId) (s : State) (g : GroupId) : (peakSampled a s).group g = s.group g :=
  group_congr (by rw [peakSampled_eq]; rfl) g

theorem failedCheckAt_peakSampled (a : AxisId) (s : State) (seg : Segment) :
    failedCheckAt (peakSampled a s) a seg = failedCheckAt s a seg := by
  unfold failedCheckAt
  rw [axis_peakSampled_self, group_peakSampled]
  rfl

theorem steady_peakSampled {s : State} (a : AxisId) (h : Steady s) : Steady (peakSampled a s) := by
  rw [peakSampled_eq]
  exact h

theorem stagingPeak_sampled {x : Axis} (skipped : Bool) (h : StagingPeak x) : StagingPeak (x.sampled skipped) := by
  refine h.imp (fun ⟨hs, g, hg, hi⟩ => ⟨hs, ?_⟩) id
  cases skipped
  · exact ⟨g, hg, hi⟩
  · exact ⟨g.countSkip, by simp [Axis.sampled, hg], hi⟩

theorem isActive_of_stagingPeak {x : Axis} (h : StagingPeak x) : x.state.isActive = true := by
  rcases h with ⟨h, _⟩ | ⟨h, _⟩ | h <;> rw [h] <;> rfl

/-- Outside QUIESCING no quiesce ends. -/
theorem steady_of_live {s : State} (hl : s.live = true) (hq : s.part ≠ .quiescing) : Steady s :=
  ⟨fun h => absurd h hq, fun h => absurd h (live_iff.mp hl).2⟩

/-! ### Reports of a part of an event, taken at its instant (R95) -/

/-- A part of an event that makes no report. -/
theorem takingOwn_of_quiet {f : State → State} {s u : State}
    (hf : f { s with reports := [] } = { u with reports := [] }) (hr : u.reports = s.reports) : takingOwn f s = u := by
  rw [takingOwn_of_none (by rw [hf]), hf, ← hr]

/-- A part of an event that leaves the part as it was makes no report. -/
theorem takingOwn_of_unchanged {f : State → State} {s : State} (h : f { s with reports := [] } = { s with reports := [] }) :
    takingOwn f s = s := takingOwn_of_quiet h rfl

/-- A part of an event that makes one report takes it at its instant. -/
theorem takingOwn_of_report {f : State → State} {s u : State} {a : AxisId} {c : TripCause}
    (hf : f { s with reports := [] } = report c [a] { u with reports := [] }) (hr : u.reports = s.reports) :
    takingOwn f s = reportTaken a c u := by
  rw [takingOwn_of_one hf rfl, ← hr]

theorem takingOwn_congr {f k : State → State} {s u : State}
    (hf : f { s with reports := [] } = k { u with reports := [] }) (hr : u.reports = s.reports) :
    takingOwn f s = takingOwn k u := by
  unfold takingOwn
  rw [hf, hr]

/-! ### The sequencer's work at a peak (R23) -/

/-- At a staging peak the sequencer comes to its staging point. -/
theorem sequencerPeak_of_stagingPeak {s : State} {a : AxisId} (h : StagingPeak (s.axis a)) :
    sequencerPeak a s = stagingPoint a s := by
  unfold sequencerPeak
  dsimp only
  rcases h with ⟨hs, g, hg, hi⟩ | ⟨hs, hi⟩ | hs
  · rw [hs, hg]
    exact if_neg (Nat.not_lt.mpr hi)
  · rw [hs]
    exact if_pos (by rw [Axis.endsPrecharge, hs]; simpa using hi)
  · rw [hs]

theorem stagingPoint_of_examines {s : State} {a : AxisId} (h : Examines (s.axis a)) :
    stagingPoint a s = examine a (s.axis a).fifo s := by
  obtain ⟨_, hp, hs, ha⟩ := h
  refine if_pos ?_
  rw [hp, hs, ha]
  rfl

theorem stagingPoint_of_idle {s : State} {a : AxisId}
    (h : (s.axis a).pendingStop ≠ none ∨ (s.axis a).staged ≠ none ∨ (s.axis a).arrival ≠ none) :
    stagingPoint a s = s := by
  refine if_neg fun hn => ?_
  simp only [Bool.and_eq_true, Option.isNone_iff_eq_none] at hn
  obtain ⟨⟨hp, hs⟩, ha⟩ := hn
  exact h.elim (absurd hp) fun h => h.elim (absurd hs) (absurd ha)

/-- The sequencer has no work at the peak. -/
abbrev Axis.IdleAtPeak (x : Axis) : Prop :=
  (x.state = .waitRdv ∧ x.released = false) ∨ (x.state = .precharge ∧ x.prechargeIndex + 1 < x.config.np) ∨
    (StagingPeak x ∧ (x.pendingStop ≠ none ∨ x.staged ≠ none ∨ x.arrival ≠ none))

theorem idleAtPeak_sampled {x : Axis} (skipped : Bool) (h : x.IdleAtPeak) : (x.sampled skipped).IdleAtPeak :=
  h.imp id (Or.imp id fun ⟨hs, rest⟩ => ⟨stagingPeak_sampled skipped hs, rest⟩)

theorem sequencerPeak_of_idle {s : State} {a : AxisId} (h : (s.axis a).IdleAtPeak) : sequencerPeak a s = s := by
  rcases h with ⟨hs, hr⟩ | ⟨hs, hi⟩ | ⟨hs, hidle⟩
  · unfold sequencerPeak
    dsimp only
    rw [hs, hr]
  · unfold sequencerPeak
    dsimp only
    rw [hs]
    exact if_neg (by rw [Axis.endsPrecharge, hs]; simpa using hi)
  · rw [sequencerPeak_of_stagingPeak hs, stagingPoint_of_idle hidle]

/-- Settles O37: where the sequencer has no work the peak is its sample alone. -/
theorem peakAsksForSample : Obligations.PeakAsksForSample := by
  intro s a hs
  refine ⟨fun hn => ?_, fun ⟨hl, ha, hr⟩ hidle => ?_⟩
  · refine next_of_settle (u := peakEvent a s) rfl hs (if_neg fun h => hn ?_)
    simpa [State.carrierRuns, and_assoc] using h
  · have idle : ((peakSampled a s).axis a).IdleAtPeak := by
      rw [axis_peakSampled_self]
      exact idleAtPeak_sampled _ hidle
    have quiet : sequencerPeak a { peakSampled a s with reports := [] } = { peakSampled a s with reports := [] } :=
      sequencerPeak_of_idle idle
    have peak : peakEvent a s = peakSampled a s := by
      rw [peakEvent_eq hl ha hr, takingOwn_of_unchanged quiet]
    obtain ⟨t, ht, settles⟩ := next_of_settle (o := exec (.carrierPeak a) s) rfl (steady_peakSampled a hs) peak
    refine ⟨t, ht, settles, fun hp => ?_, fun hp hm => ?_, fun hp hm => ?_⟩
    · have other : (s.part == .running) = false := beq_eq_false_iff_ne.mpr hp
      rw [peakSampled_eq, State.skipsSample, State.measSampled, other]
      rfl
    · have free := Bool.eq_false_iff.mpr fun e => hm ((occupied_iff _ _).mp e)
      rw [peakSampled_eq, State.skipsSample, State.measSampled, hp, free]
      rw [join_eq]
      rfl
    · rw [peakSampled_eq, State.skipsSample, State.measSampled, hp, (occupied_iff _ _).mpr hm]
      rfl

/-- Settles O38: inside a segment the sequencer requests the next period. -/
theorem peakRequestsNextPeriod : Obligations.PeakRequestsNextPeriod := by
  intro s a g hs hl hrun hr hg hi
  have active : s.activeAxis a = true := by rw [State.activeAxis, hrun]; rfl
  have self := axis_peakSampled_self a s
  have requests : sequencerPeak a { peakSampled a s with reports := [] } =
      { (peakSampled a s).setAxis a
        (((peakSampled a s).axis a).requested g.seg (g.index + 1) (s.axis a).shadowH) with reports := [] } := by
    have hrun' : ((peakSampled a s).axis a).state = .run := by rw [self]; exact hrun
    obtain ⟨g', hg', hseg, hind⟩ : ∃ g', ((peakSampled a s).axis a).active = some g' ∧ g'.seg = g.seg ∧ g'.index = g.index := by
      rw [self]
      cases hsk : s.skipsSample a
      · exact ⟨g, hg, rfl, rfl⟩
      · exact ⟨g.countSkip, by simp [Axis.sampled, hg], rfl, rfl⟩
    have shadow : ((peakSampled a s).axis a).shadowH = (s.axis a).shadowH := by rw [self]; rfl
    rw [← hseg, ← hind] at hi ⊢
    rw [← shadow, ← request_eq]
    unfold sequencerPeak
    dsimp only
    rw [show (({ peakSampled a s with reports := [] } : State).axis a).state = .run from hrun',
      show (({ peakSampled a s with reports := [] } : State).axis a).active = some g' from hg']
    exact if_pos hi
  refine next_of_settle (u := peakEvent a s) rfl (steady_peakSampled a hs) ?_
  rw [peakEvent_eq hl active hr]
  exact takingOwn_of_quiet requests rfl

end Sys2Proof.Machine
end

section
/-! The examination of successive heads, at a staging peak and after a release (R23 to R27, R81 to R83). -/

namespace Sys2Proof.Machine

/-! ### What one head comes to (R24, R25, R81, R82, R88) -/

/-- The axis as a MARK at the head leaves its FIFO (R25). -/
def Axis.markDone (x : Axis) (seg : Segment) (rest : List Segment) : Axis :=
  { x with fifo := rest, endPermission := seg.endOk }

/-- The part as a MARK at the head completes (R25). -/
def State.markDone (s : State) (a : AxisId) (seg : Segment) (rest : List Segment) : State :=
  endedOk a seg 0 noStats (s.setAxis a ((s.axis a).markDone seg rest))

theorem completeMark_eq (a : AxisId) (seg : Segment) (rest : List Segment) (s : State) :
    completeMark a seg rest s = s.markDone a seg rest := rfl

theorem stageHead_eq (a : AxisId) (seg : Segment) (rest : List Segment) (s : State) :
    stageHead a seg rest s = s.setAxis a ((s.axis a).withStaged seg rest) := by
  rw [stageHead, modAxis_eq, stage_eq]

/-- The head is taken as one without RDV: a MARK completes and the examination goes on with the rest, another head is
staged (R24, R26). -/
def headTaken (a : AxisId) (seg : Segment) (rest : List Segment) (s : State) : State :=
  if seg.kind = 5 then examine a rest (s.markDone a seg rest) else s.setAxis a ((s.axis a).withStaged seg rest)

section
variable {s : State} {a : AxisId} {seg : Segment} (rest : List Segment)

theorem examine_of_failed (h : failedCheckAt s a seg ≠ none) :
    examine a (seg :: rest) s = report .badSegment [a] s := by
  rw [examine, validate_eq, if_pos (Option.isSome_iff_ne_none.mpr h)]

/-- A valid head is not refused by a check. -/
theorem not_fails (h : failedCheckAt s a seg = none) : ¬ (validate s a seg).isSome = true := by
  rw [validate_eq, h]
  exact Bool.false_ne_true

theorem examine_valid (h : failedCheckAt s a seg = none) (hr : seg.rdv = false) :
    examine a (seg :: rest) s = headTaken a seg rest s := by
  rw [examine, if_neg (not_fails h), if_neg (by rw [hr]; exact Bool.false_ne_true), isMark_eq, completeMark_eq,
    stageHead_eq]
  simp only [decide_eq_true_eq, headTaken]

/-! The head of a group arrives there. -/

theorem arrive_broken (hg : (s.group g).state = .broken) : arrive a g s = (s, .refused) := by
  unfold arrive
  dsimp only
  rw [hg]

theorem arrive_waits (hg : (s.group g).state ≠ .broken)
    (hm : (s.group g).arrived ||| axisBit a ≠ (s.group g).members) : arrive a g s =
      (s.setGroup g ((s.group g).joined ((s.group g).arrived ||| axisBit a)), .waits) := by
  unfold arrive Group.joined
  dsimp only
  cases hs : (s.group g).state
  case broken => exact absurd hs hg
  all_goals exact if_neg hm

theorem axis_groupReleased (g : GroupId) (a b : AxisId) (x : Axis) (s : State) : (groupReleased g a x s).axis b =
    if b = a then x else if hasAxis (s.group g).arrived b = true then { s.axis b with releaseSent := true }
      else s.axis b := by
  simp only [State.axis, groupReleased, Fin.getElem_fin, Vector.getElem_ofFn]

theorem axis_groupReleased_self (g : GroupId) (a : AxisId) (x : Axis) (s : State) : (groupReleased g a x s).axis a = x := by
  rw [axis_groupReleased, if_pos rfl]

theorem setAxis_groupReleased (g : GroupId) (a : AxisId) (x y : Axis) (s : State) :
    (groupReleased g a x s).setAxis a y = groupReleased g a y s := by
  have axes : ((groupReleased g a x s).setAxis a y).axes = (groupReleased g a y s).axes := by
    refine axes_ext fun b => ?_
    rw [axis_setAxis, axis_groupReleased, axis_groupReleased]
    split <;> rfl
  calc (groupReleased g a x s).setAxis a y
      = { groupReleased g a y s with axes := ((groupReleased g a x s).setAxis a y).axes } := rfl
    _ = groupReleased g a y s := by rw [axes]

/-- The releases that a completed set sends, one axis after the other, are those of `groupReleased` (R82). -/
theorem sendReleases_eq_groupReleased (g : GroupId) (a : AxisId) (s : State) :
    (releasedOthers a g s).foldl (fun s b => sendRelease b s) (s.setGroup g (s.group g).afterRelease) =
      groupReleased g a (s.axis a) s := by
  obtain ⟨axes, he⟩ := sendReleases_eq (releasedOthers a g s) (s.setGroup g (s.group g).afterRelease)
  have same : axes = (groupReleased g a (s.axis a) s).axes := by
    refine axes_ext (s := { s with axes := _ }) (t := { s with axes := axes }) fun b => ?_
    have sent := axis_sendReleases (releasedOthers a g s) (s.setGroup g (s.group g).afterRelease) b
    rw [he] at sent
    refine sent.trans (Eq.trans ?_ (axis_groupReleased g a b (s.axis a) s).symm)
    have mem : b ∈ releasedOthers a g s ↔ hasAxis (s.group g).arrived b = true ∧ b ≠ a := by
      simp only [releasedOthers, List.mem_filter, mem_axesOf, hasAxis_or_axisBit, decide_eq_true_eq]
      tauto
    by_cases e : b = a
    · subst e
      rw [if_neg fun h => (mem.mp h).2 rfl, if_pos rfl]
      rfl
    · rw [if_neg e]
      by_cases hb : hasAxis (s.group g).arrived b = true
      · rw [if_pos (mem.mpr ⟨hb, e⟩), if_pos hb]
        rfl
      · rw [if_neg fun h => hb (mem.mp h).1, if_neg hb]
        rfl
  rw [he, same]
  rfl

theorem arrive_released (hg : (s.group g).state ≠ .broken)
    (hm : (s.group g).arrived ||| axisBit a = (s.group g).members) : arrive a g s =
      (groupReleased g a (s.axis a) s, .released) := by
  rw [← sendReleases_eq_groupReleased]
  unfold arrive
  dsimp only
  cases hs : (s.group g).state
  case broken => exact absurd hs hg
  all_goals exact if_pos hm

theorem examine_refused (h : failedCheckAt s a seg = none) (hr : seg.rdv = true)
    (hg : (s.group seg.groupId).state = .broken) : examine a (seg :: rest) s = report .rdvBroken [a] s := by
  rw [examine, if_neg (not_fails h), if_pos hr, arrive_broken hg]

theorem examine_waits (h : failedCheckAt s a seg = none) (hr : seg.rdv = true)
    (hg : (s.group seg.groupId).state ≠ .broken)
    (hm : (s.group seg.groupId).arrived ||| axisBit a ≠ (s.group seg.groupId).members) :
    examine a (seg :: rest) s = (s.setAxis a { s.axis a with arrival := some seg.groupId }).setGroup seg.groupId
      ((s.group seg.groupId).joined ((s.group seg.groupId).arrived ||| axisBit a)) := by
  rw [examine, if_neg (not_fails h), if_pos hr, arrive_waits hg hm]
  rfl

theorem examine_released (h : failedCheckAt s a seg = none) (hr : seg.rdv = true)
    (hg : (s.group seg.groupId).state ≠ .broken)
    (hm : (s.group seg.groupId).arrived ||| axisBit a = (s.group seg.groupId).members) :
    examine a (seg :: rest) s = headTaken a seg rest (groupReleased seg.groupId a (s.axis a) s) := by
  rw [examine, if_neg (not_fails h), if_pos hr, arrive_released hg hm]
  dsimp only
  rw [completeMark_eq, stageHead_eq, isMark_eq]
  simp only [decide_eq_true_eq, headTaken]

theorem headTaken_groupReleased (g : GroupId) (x : Axis) : headTaken a seg rest (groupReleased g a x s) =
    if seg.kind = 5 then examine a rest (endedOk a seg 0 noStats (groupReleased g a (x.markDone seg rest) s))
    else groupReleased g a (x.withStaged seg rest) s := by
  rw [headTaken, State.markDone, axis_groupReleased_self, setAxis_groupReleased, setAxis_groupReleased]

end

/-! ### A peak at which the FIFO is examined (R23, R24) -/

theorem peakEvent_of_examines {s : State} {a : AxisId} (hl : s.live = true) (hr : (s.axis a).rising = true)
    (h : Examines (s.axis a)) : peakEvent a s = takingOwn (examine a (s.axis a).fifo) (peakSampled a s) := by
  obtain ⟨hp, rest⟩ := h
  have self := axis_peakSampled_self a s
  have examines : Examines ((peakSampled a s).axis a) := by
    rw [self]
    exact ⟨stagingPeak_sampled _ hp, rest⟩
  have fifo : ((peakSampled a s).axis a).fifo = (s.axis a).fifo := by rw [self]; rfl
  rw [peakEvent_eq hl (isActive_of_stagingPeak hp) hr, ← fifo]
  refine takingOwn_congr ?_ rfl
  exact (sequencerPeak_of_stagingPeak (s := { peakSampled a s with reports := [] }) examines.1).trans
    (stagingPoint_of_examines (s := { peakSampled a s with reports := [] }) examines)

theorem peakSampled_endedOk (a : AxisId) (seg : Segment) (n : Nat) (st : Stats) (s : State) :
    peakSampled a (endedOk a seg n st s) = endedOk a seg n st (peakSampled a s) := by
  rw [peakSampled_eq, endedOk_axis, endedOk_eq, endedOk_eq, peakSampled_eq]
  rfl

theorem sampled_markDone (x : Axis) (seg : Segment) (rest : List Segment) (skipped : Bool) :
    (x.markDone seg rest).sampled skipped = (x.sampled skipped).markDone seg rest := rfl

/-- The sample of a peak and the completion of a MARK at it change nothing of one another. -/
theorem peakSampled_markDone (a : AxisId) (seg : Segment) (rest : List Segment) (s : State) :
    peakSampled a (s.markDone a seg rest) = (peakSampled a s).markDone a seg rest := by
  rw [State.markDone, State.markDone, peakSampled_endedOk, axis_peakSampled_self, peakSampled_eq, peakSampled_eq,
    axis_setAxis_self, setAxis_setAxis, sampled_markDone]
  congr 1
  exact congrArg (fun u : State => { u with meas := s.measSampled a }) (setAxis_setAxis s a _ _).symm

theorem groupReleased_peakSampled (a : AxisId) (g : GroupId) (x : Axis) (s : State) :
    groupReleased g a (x.sampled (s.skipsSample a)) (peakSampled a s) = peakSampled a (groupReleased g a x s) := by
  have axes : (groupReleased g a (x.sampled (s.skipsSample a)) (peakSampled a s)).axes =
      (groupReleased g a (x.sampled (s.skipsSample a)) s).axes := by
    refine axes_ext fun b => ?_
    rw [axis_groupReleased, axis_groupReleased]
    split
    · rfl
    · next hb =>
      rw [group_peakSampled]
      have same : (peakSampled a s).axis b = s.axis b := by
        rw [peakSampled_eq]
        exact axis_setAxis_ne s _ hb
      rw [same]
  rw [peakSampled_eq a (groupReleased g a x s), setAxis_groupReleased, axis_groupReleased_self]
  calc groupReleased g a (x.sampled (s.skipsSample a)) (peakSampled a s)
      = { groupReleased g a (x.sampled (s.skipsSample a)) s with
          axes := (groupReleased g a (x.sampled (s.skipsSample a)) (peakSampled a s)).axes
          meas := s.measSampled a } := by
        rw [peakSampled_eq]
        rfl
    _ = _ := by
        rw [axes]
        rfl

theorem markDone_noReports (s : State) (a : AxisId) (seg : Segment) (rest : List Segment) :
    { s with reports := [] }.markDone a seg rest = { s.markDone a seg rest with reports := [] } := by
  rw [State.markDone, State.markDone, endedOk_eq, endedOk_eq]
  rfl

theorem live_markDone (s : State) (a : AxisId) (seg : Segment) (rest : List Segment) :
    (s.markDone a seg rest).live = s.live := by
  rw [State.markDone, endedOk_eq]
  rfl

theorem axis_markDone (s : State) (a : AxisId) (seg : Segment) (rest : List Segment) :
    (s.markDone a seg rest).axis a = (s.axis a).markDone seg rest := by
  rw [State.markDone, endedOk_axis, axis_setAxis_self]

/-- In WAIT_RDV the head that its group has released is staged (R27). -/
theorem sequencerPeak_of_released {s : State} {a : AxisId} {seg : Segment} {rest : List Segment}
    (hw : (s.axis a).state = .waitRdv) (hr : (s.axis a).released = true) (hf : (s.axis a).fifo = seg :: rest) :
    sequencerPeak a s = s.setAxis a { (s.axis a).withStaged seg rest with released := false } := by
  unfold sequencerPeak
  dsimp only
  rw [hw]
  dsimp only
  rw [hr, hf]
  dsimp only
  rw [stageHead_eq, modAxis_eq, axis_setAxis_self, setAxis_setAxis]

/-- Settles O39: at a staging peak the head of the FIFO is examined after the sample. -/
theorem stagingPeakExaminesHeads : Obligations.StagingPeakExaminesHeads := by
  intro s a hs hl hq hr
  have self := axis_peakSampled_self a s
  have steady := steady_peakSampled a hs
  refine ⟨fun hx => ⟨fun hf => ?_, fun seg rest hf => ?_⟩, fun hw hrel seg rest hf => ?_⟩
  · have peak := peakEvent_of_examines hl hr hx
    refine next_of_settle (u := peakEvent a s) rfl steady ?_
    rw [peak, hf]
    exact takingOwn_of_unchanged rfl
  · have peak := peakEvent_of_examines hl hr hx
    rw [hf] at peak
    have check := failedCheckAt_peakSampled a s seg
    refine ⟨fun hv => ?_, fun hv hrdv => ⟨fun hk => ?_, fun hk => ?_⟩⟩
    · refine next_of_settle (u := peakEvent a s) rfl (steady_reportTaken a _ steady) (peak.trans ?_)
      exact takingOwn_of_report (examine_of_failed rest (check.symm ▸ hv)) rfl
    · refine next_of_settle (u := peakEvent a s) rfl (by exact steady) (peak.trans ?_)
      exact takingOwn_of_quiet
        ((examine_valid (s := { peakSampled a s with reports := [] }) rest (check.trans hv) hrdv).trans (if_neg hk)) rfl
    · suffices h : peakEvent a s = peakEvent a (s.markDone a seg rest) from
        congrArg (fun u => Host.Outcome.next (settle u)) h
      have done := axis_markDone s a seg rest
      rw [peak, peakEvent_of_examines (by rw [live_markDone, hl]) (by rw [done]; exact hr) (by rw [done]; exact hx),
        done, peakSampled_markDone]
      refine takingOwn_congr ?_ (by rw [State.markDone, endedOk_eq]; rfl)
      rw [← markDone_noReports]
      exact (examine_valid (s := { peakSampled a s with reports := [] }) rest (check.trans hv) hrdv).trans (if_pos hk)
  · have active : s.activeAxis a = true := by rw [State.activeAxis, hw]; rfl
    have staged : sequencerPeak a { peakSampled a s with reports := [] } = { (peakSampled a s).setAxis a
        { ((peakSampled a s).axis a).withStaged seg rest with released := false } with reports := [] } := by
      obtain ⟨waits, released, fifo⟩ : ((peakSampled a s).axis a).state = .waitRdv ∧
          ((peakSampled a s).axis a).released = true ∧ ((peakSampled a s).axis a).fifo = seg :: rest := by
        rw [self]
        exact ⟨hw, hrel, hf⟩
      exact sequencerPeak_of_released (s := { peakSampled a s with reports := [] }) waits released fifo
    refine next_of_settle (u := peakEvent a s) rfl (by exact steady) ?_
    rw [peakEvent_eq hl active hr]
    exact takingOwn_of_quiet staged rfl

/-- Settles O40: the head of a group arrives there at a staging peak. -/
theorem arrivalGathersOrReleases : Obligations.ArrivalGathersOrReleases := by
  intro s a seg rest hs hl hq hr hx hf hv hrdv
  have self := axis_peakSampled_self a s
  have steady := steady_peakSampled a hs
  have peak := peakEvent_of_examines hl hr hx
  rw [hf] at peak
  have valid := (failedCheckAt_peakSampled a s seg).trans hv
  have group := group_peakSampled a s seg.groupId
  refine ⟨fun hg => ?_, fun hg hm => ?_, fun hg hm hk => ?_, fun hg hm hk => ?_⟩
  · refine next_of_settle (u := peakEvent a s) rfl (steady_reportTaken a _ steady) (peak.trans ?_)
    exact takingOwn_of_report (examine_refused rest valid hrdv (group.symm ▸ hg)) rfl
  · refine next_of_settle (u := peakEvent a s) rfl (by exact steady) (peak.trans ?_)
    rw [← group] at hg hm ⊢
    exact takingOwn_of_quiet (examine_waits (s := { peakSampled a s with reports := [] }) rest valid hrdv hg hm) rfl
  · refine next_of_settle (u := peakEvent a s) rfl (by exact steady) (peak.trans ?_)
    rw [← group] at hg hm
    refine takingOwn_of_quiet
      ((examine_released (s := { peakSampled a s with reports := [] }) rest valid hrdv hg hm).trans ?_) rfl
    rw [headTaken_groupReleased, if_neg hk]
    rfl
  · suffices h : peakEvent a s = peakEvent a (endedOk a seg 0 noStats
        (groupReleased seg.groupId a ((s.axis a).markDone seg rest) s)) from
      congrArg (fun u => Host.Outcome.next (settle u)) h
    have done : (endedOk a seg 0 noStats (groupReleased seg.groupId a ((s.axis a).markDone seg rest) s)).axis a =
        (s.axis a).markDone seg rest := by rw [endedOk_axis, axis_groupReleased_self]
    rw [peak, peakEvent_of_examines (by rw [endedOk_eq]; exact hl) (by rw [done]; exact hr) (by rw [done]; exact hx),
      done, peakSampled_endedOk, ← groupReleased_peakSampled, sampled_markDone, ← self]
    rw [← group] at hg hm
    refine takingOwn_congr ?_ (by rw [endedOk_eq]; rfl)
    refine (examine_released (s := { peakSampled a s with reports := [] }) rest valid hrdv hg hm).trans ?_
    rw [headTaken_groupReleased, if_pos hk, endedOk_eq, endedOk_eq]
    rfl

/-! ### A release taken (R26, R27) -/

/-- The part as axis a's wait at its group ends. -/
def State.freed (s : State) (a : AxisId) : State := s.setAxis a (s.axis a).freed

/-- A release that comes before the axis's next valley, with no stop pending, lets the examination go on (R26). -/
theorem takeRelease_resumes {s : State} {a : AxisId} {seg : Segment} {rest : List Segment}
    (hr : (s.axis a).releaseSent = true) (hg : (s.axis a).arrival ≠ none) (hf : (s.axis a).fifo = seg :: rest)
    (ha : (s.axis a).state.isActive = true) (hw : (s.axis a).state ≠ .waitRdv) (hp : (s.axis a).pendingStop = none) :
    takeRelease a s = headTaken a seg rest (s.freed a) := by
  obtain ⟨g, hg⟩ := Option.ne_none_iff_exists'.mp hg
  unfold takeRelease headTaken State.freed Axis.freed
  dsimp only
  rw [hr, hg, hf, hp, ha]
  simp only [modAxis_eq, axis_setAxis_self, setAxis_setAxis, completeMark_eq, stageHead_eq, isMark_eq, if_neg hw,
    Bool.not_true, Bool.false_eq_true, if_false, if_true, decide_eq_true_eq, Option.isNone_none]

/-- A release that does not let the examination resume is taken as `withRelease` says. -/
theorem takingOwn_withRelease {s : State} {a : AxisId} (h : ReleaseOnItsWay (s.axis a)) :
    takingOwn (takeRelease a) s = withRelease a s := by
  have onway := h
  obtain ⟨_, _, _, seg, rest, hf, _⟩ := h
  refine takingOwn_of_quiet ?_ (by rw [withRelease_eq hf]; rfl)
  rw [takeRelease_eq (s := { s with reports := [] }) onway, withRelease_eq (s := { s with reports := [] }) hf,
    withRelease_eq hf]
  rfl

theorem steady_withRelease {s : State} (a : AxisId) (hl : s.live = true) (hq : s.part ≠ .quiescing) :
    Steady (withRelease a s) := by
  cases hf : (s.axis a).fifo with
  | nil =>
    unfold withRelease
    dsimp only
    rw [hf]
    exact steady_of_live hl hq
  | cons seg rest =>
    rw [withRelease_eq hf]
    exact steady_of_live hl hq

theorem freed_noReports (s : State) (a : AxisId) :
    ({ s with reports := [] } : State).freed a = { s.freed a with reports := [] } := rfl

theorem freed_markDone (s : State) (a : AxisId) (seg : Segment) (rest : List Segment) :
    (s.markDone a seg rest).freed a = (s.freed a).markDone a seg rest := by
  rw [State.freed, axis_markDone, State.markDone, State.markDone, endedOk_setAxis, setAxis_setAxis, State.freed,
    axis_setAxis_self, setAxis_setAxis]
  rfl

/-- The group table is read of the state before the examining axis changes. -/
theorem groupReleased_setAxis (g : GroupId) (a : AxisId) (x y : Axis) (s : State) :
    groupReleased g a x (s.setAxis a y) = groupReleased g a x s := by
  have axes : (groupReleased g a x (s.setAxis a y)).axes = (groupReleased g a x s).axes := by
    refine axes_ext fun b => ?_
    rw [axis_groupReleased, axis_groupReleased]
    split
    · rfl
    · next hb =>
      rw [axis_setAxis_ne s y hb]
      rfl
  calc groupReleased g a x (s.setAxis a y)
      = { groupReleased g a x s with axes := (groupReleased g a x (s.setAxis a y)).axes } := rfl
    _ = groupReleased g a x s := by rw [axes]

theorem groupReleased_endedOk (g : GroupId) (a : AxisId) (x : Axis) (seg : Segment) (n : Nat) (st : Stats) (s : State) :
    groupReleased g a x (endedOk a seg n st s) = endedOk a seg n st (groupReleased g a x s) := by
  rw [endedOk_eq, endedOk_eq]
  rfl

/-- The part as a released MARK completes: the axis waits no more and the record behind it is the head. -/
def State.markReleased (s : State) (a : AxisId) (seg : Segment) (rest : List Segment) : State :=
  endedOk a seg 0 noStats (s.setAxis a ((s.axis a).freed.markDone seg rest))

theorem markReleased_eq (s : State) (a : AxisId) (seg : Segment) (rest : List Segment) :
    s.markReleased a seg rest = (s.markDone a seg rest).freed a := by
  rw [freed_markDone, State.markDone, State.freed, axis_setAxis_self, setAxis_setAxis, State.markReleased]

section
variable (s : State) (a : AxisId) (seg : Segment) (rest : List Segment)

theorem axis_markReleased : (s.markReleased a seg rest).axis a = (s.axis a).freed.markDone seg rest := by
  rw [State.markReleased, endedOk_axis, axis_setAxis_self]

theorem group_markReleased (g : GroupId) : (s.markReleased a seg rest).group g = s.group g := by
  rw [State.markReleased, endedOk_eq]
  rfl

theorem reports_markReleased : (s.markReleased a seg rest).reports = s.reports := by
  rw [State.markReleased, endedOk_eq]
  rfl

theorem failedCheckAt_markReleased (next : Segment) :
    failedCheckAt (s.markReleased a seg rest) a next = failedCheckAt s a next := by
  unfold failedCheckAt
  rw [axis_markReleased, group_markReleased]
  rfl

end

theorem steady_markReleased {s : State} (a : AxisId) (seg : Segment) (rest : List Segment) (hl : s.live = true)
    (hq : s.part ≠ .quiescing) : Steady (s.markReleased a seg rest) := by
  rw [State.markReleased, endedOk_eq]
  exact steady_of_live hl hq

/-- What a released MARK leaves the axis with, seen from the state in which it had completed before the release
while the next head completed the set of its own group. -/
theorem groupReleased_markReleased (g : GroupId) (s : State) (a : AxisId) (seg : Segment) (rest : List Segment) :
    groupReleased g a ((s.markReleased a seg rest).axis a) (s.markReleased a seg rest) =
      (endedOk a seg 0 noStats (groupReleased g a ((s.axis a).markDone seg rest) s)).freed a := by
  rw [axis_markReleased, State.markReleased, groupReleased_endedOk, groupReleased_setAxis, State.freed, endedOk_axis,
    axis_groupReleased_self, endedOk_setAxis, setAxis_groupReleased]
  rfl

/-- Settles O41: a release ends the wait of its axis, and the examination goes on where it may. -/
theorem releaseEndsWait : Obligations.ReleaseEndsWait := by
  intro s a hs hl hq
  have own : releaseEvent a s = takingOwn (takeRelease a) s := if_pos hl
  refine ⟨fun hr => ?_, fun g seg rest hr hg hf => ?_⟩
  · refine next_of_settle (u := releaseEvent a s) rfl hs (own.trans ?_)
    exact takingOwn_of_unchanged (takeRelease_of_none hr)
  have arrived : (s.axis a).arrival ≠ none := by rw [hg]; exact Option.some_ne_none g
  have stops {u : State} (ha : (s.axis a).state.isActive = true)
      (h : seg.kind = 5 → (s.axis a).state = .waitRdv ∨ (s.axis a).pendingStop ≠ none ∨ rest = [])
      (hu : withRelease a s = u) : ∃ t, exec (.releaseTaken a) s = .next t ∧ Settles u t := by
    refine next_of_settle (u := releaseEvent a s) rfl (hu ▸ steady_withRelease a hl hq) (own.trans ?_)
    rw [takingOwn_withRelease ⟨ha, hr, arrived, seg, rest, hf, h⟩, hu]
  refine ⟨fun hw hk => ?_, fun hw hk => ?_, fun hstate => ?_⟩
  · refine stops (by rw [hw]; rfl) (fun h => absurd h hk) ?_
    simp only [withRelease, hf, if_neg hk, if_pos hw]
  · refine stops (by rw [hw]; rfl) (fun _ => .inl hw) ?_
    simp only [withRelease, hf, if_pos hk, if_pos hw]
  have ha : (s.axis a).state.isActive = true := by rcases hstate with h | h | h <;> rw [h] <;> rfl
  have hw : (s.axis a).state ≠ .waitRdv := by rcases hstate with h | h | h <;> rw [h] <;> decide
  refine ⟨fun hk => ?_, fun hk hstop => ?_, fun hk hp next rest' hrest => ?_⟩
  · refine stops ha (fun h => absurd h hk) ?_
    simp only [withRelease, hf, if_neg hk, if_neg hw]
  · refine stops ha (fun _ => .inr hstop) ?_
    simp only [withRelease, hf, if_pos hk, if_neg hw]
  subst hrest
  have goesOn : takeRelease a { s with reports := [] } =
      examine a (next :: rest') { s.markReleased a seg (next :: rest') with reports := [] } := by
    rw [takeRelease_resumes (s := { s with reports := [] }) hr arrived hf ha hw hp, headTaken, if_pos hk,
      freed_noReports, markDone_noReports, ← freed_markDone, ← markReleased_eq]
  have check := failedCheckAt_markReleased s a seg (next :: rest') next
  have group := group_markReleased s a seg (next :: rest') next.groupId
  have reports := reports_markReleased s a seg (next :: rest')
  have steady := steady_markReleased a seg (next :: rest') hl hq
  have asIfDone {v : State} (hv : v.axis a = (s.axis a).markDone seg (next :: rest')) (hvl : v.live = true)
      (hvr : v.reports = s.reports)
      (h : takeRelease a { s with reports := [] } = headTaken a next rest' { v.freed a with reports := [] }) :
      exec (.releaseTaken a) s = exec (.releaseTaken a) v := by
    refine congrArg (fun u => Host.Outcome.next (settle u)) (own.trans (Eq.trans ?_ (if_pos hvl).symm))
    refine takingOwn_congr (h.trans ?_) hvr
    have self : ({ v with reports := [] } : State).axis a = (s.axis a).markDone seg (next :: rest') := hv
    refine (takeRelease_resumes (s := { v with reports := [] }) (seg := next) (rest := rest') ?_ ?_ ?_ ?_ ?_ ?_).symm
    all_goals rw [self]
    exacts [hr, arrived, rfl, ha, hw, hp]
  refine ⟨fun hv => ?_, fun hv hrdv => ?_, fun hv hrdv => ⟨fun hb => ?_, fun hb hm => ?_, fun hb hm => ?_⟩⟩
  · refine next_of_settle (u := releaseEvent a s) rfl (steady_reportTaken a _ steady) (own.trans ?_)
    exact takingOwn_of_report (goesOn.trans (examine_of_failed rest' (check.symm ▸ hv))) reports
  · refine asIfDone (v := s.markDone a seg (next :: rest')) (axis_markDone s a seg _) ((live_markDone s a seg _).trans hl)
      (by rw [State.markDone, endedOk_eq]; rfl) ?_
    rw [goesOn, ← markReleased_eq]
    exact examine_valid (s := { s.markReleased a seg (next :: rest') with reports := [] }) rest' (check.trans hv) hrdv
  · refine next_of_settle (u := releaseEvent a s) rfl (steady_reportTaken a _ steady) (own.trans ?_)
    exact takingOwn_of_report (goesOn.trans (examine_refused rest' (check.trans hv) hrdv (group.symm ▸ hb))) reports
  · refine next_of_settle (u := releaseEvent a s) rfl (by exact steady) (own.trans ?_)
    rw [← group] at hb hm ⊢
    refine takingOwn_of_quiet (goesOn.trans ?_) reports
    exact examine_waits (s := { s.markReleased a seg (next :: rest') with reports := [] }) rest' (check.trans hv) hrdv hb hm
  · refine asIfDone (v := endedOk a seg 0 noStats (groupReleased next.groupId a
      ((s.axis a).markDone seg (next :: rest')) s)) (by rw [endedOk_axis, axis_groupReleased_self])
      (by rw [endedOk_eq]; exact hl) (by rw [endedOk_eq]; rfl) ?_
    rw [← group] at hb hm
    rw [goesOn, ← groupReleased_markReleased]
    exact examine_released (s := { s.markReleased a seg (next :: rest') with reports := [] }) rest' (check.trans hv) hrdv
      hb hm

end Sys2Proof.Machine
end

section
/-! The valley of a carrier, and trips as events (R28 to R31, R38, R49, R95, R96). -/

namespace Sys2Proof.Machine

/-! ### The modulator's part of a valley (R49) -/

/-- The part without the reports in flight, as a part of an event that takes its own reports sees it. -/
abbrev State.unreported (s : State) : State := { s with reports := [] }

/-- The load that ends the valley of an axis that is still active. -/
def State.loaded (s : State) (a : AxisId) : State := if s.activeAxis a then s.setAxis a (s.axis a).load else s

/-- The part as the valley of axis a begins: the monitors have accounted and the carrier has turned. -/
def State.opened (s : State) (a : AxisId) : State := s.setAxis a (valleyOpened (s.axis a))

theorem axis_opened (s : State) (a : AxisId) : (s.opened a).unreported.axis a = valleyOpened (s.axis a) :=
  axis_setAxis_self s a _

theorem setAxis_opened (s : State) (a : AxisId) (x : Axis) :
    (s.opened a).unreported.setAxis a x = (s.setAxis a x).unreported :=
  congrArg State.unreported (setAxis_setAxis s a _ x)

theorem takeValley_of_active {s : State} {a : AxisId} (h : s.activeAxis a = true) :
    takeValley a s = (takingOwn (sequencerValley a) (s.opened a)).loaded a := if_pos h

theorem takeValley_of_inactive {s : State} {a : AxisId} (h : s.activeAxis a = false) : takeValley a s = s :=
  if_neg (by rw [h]; exact Bool.false_ne_true)

theorem loaded_setAxis {s : State} {a : AxisId} {x : Axis} (h : x.state.isActive = true) :
    (s.setAxis a x).loaded a = s.setAxis a x.load := by
  have active : (s.setAxis a x).activeAxis a = true := by rw [State.activeAxis, axis_setAxis_self, h]
  rw [State.loaded, if_pos active, axis_setAxis_self, setAxis_setAxis]

theorem loaded_of_inactive {s : State} {a : AxisId} (h : (s.axis a).state.isActive = false) : s.loaded a = s :=
  if_neg (by rw [State.activeAxis, h]; exact Bool.false_ne_true)

section
variable {s : State} {a : AxisId}

theorem valleyEvent_eq (hl : s.live = true) (ha : s.activeAxis a = true) (hr : (s.axis a).rising = false) :
    valleyEvent a s = takeValley a (if (s.axis a).stopDue then finishGroup a s else s) := by
  unfold valleyEvent State.carrierRuns
  rw [hl, ha, hr]
  rfl

/-- A valley at which no stop takes effect. -/
theorem valleyEvent_of_no_stop (hl : s.live = true) (ha : s.activeAxis a = true) (hr : (s.axis a).rising = false)
    (hp : (s.axis a).stopDue = false) : valleyEvent a s = (takingOwn (sequencerValley a) (s.opened a)).loaded a := by
  rw [valleyEvent_eq hl ha hr, hp]
  exact takeValley_of_active ha

/-- A valley whose sequencer's part makes no report. -/
theorem valleyEvent_of_quiet {u : State} (hl : s.live = true) (ha : s.activeAxis a = true)
    (hr : (s.axis a).rising = false) (hp : (s.axis a).stopDue = false)
    (h : sequencerValley a (s.opened a).unreported = u.unreported) (hu : u.reports = s.reports) :
    valleyEvent a s = u.loaded a :=
  (valleyEvent_of_no_stop hl ha hr hp).trans (congrArg (State.loaded · a) (takingOwn_of_quiet h hu))

/-! ### A valley within a segment or precharge (R22, R28) -/

theorem sequencerValley_within {g : ActiveSegment} (hs : (s.axis a).state = .run) (hg : (s.axis a).active = some g)
    (hi : g.index + 1 < g.seg.periods.toNat) :
    sequencerValley a s = s.setAxis a { s.axis a with active := some { g with index := g.index + 1 } } := by
  unfold sequencerValley
  dsimp only
  rw [hs, hg]
  exact if_pos hi

theorem endsPrecharge_iff (x : Axis) :
    x.endsPrecharge = true ↔ x.state = .precharge ∧ x.config.np ≤ x.prechargeIndex + 1 := by
  simp [Axis.endsPrecharge]

theorem sequencerValley_precharge (hs : (s.axis a).state = .precharge)
    (hi : (s.axis a).prechargeIndex + 1 < (s.axis a).config.np) :
    sequencerValley a s = match (s.axis a).pendingStop with
      | some tag => pendingStopEffect a tag s
      | none => s.setAxis a { s.axis a with prechargeIndex := (s.axis a).prechargeIndex + 1 } := by
  unfold sequencerValley
  dsimp only
  rw [hs]
  refine (if_neg ?_).trans ?_
  · rw [endsPrecharge_iff]
    omega
  · rfl

theorem stopDue_of_none (hp : (s.axis a).pendingStop = none) : (s.axis a).stopDue = false := by
  rw [Axis.stopDue, hp]
  rfl

end

/-- Settles O42: a valley within a segment or precharge accounts, advances and loads. -/
theorem valleyWithinSegmentAdvances : Obligations.ValleyWithinSegmentAdvances := by
  intro s a hs
  refine ⟨fun hn => ?_, fun ⟨hl, ha, hr⟩ g hrun hg hi => ?_, fun ⟨hl, ha, hr⟩ hpre hi hp => ?_⟩
  · refine next_of_settle (u := valleyEvent a s) rfl hs (if_neg fun h => hn ?_)
    simpa [State.carrierRuns, and_assoc] using h
  · have within : (s.axis a).stopDue = false := by simp [Axis.stopDue, hrun, hg, hi]
    have self := axis_opened s a
    refine next_of_settle (u := valleyEvent a s) rfl (by exact hs) ?_
    refine (valleyEvent_of_quiet (u := s.setAxis a { valleyOpened (s.axis a) with
      active := some { g with index := g.index + 1 } }) hl ha hr within ?_ rfl).trans (loaded_setAxis ha)
    refine (sequencerValley_within (s := (s.opened a).unreported) (g := g) ((congrArg Axis.state self).trans hrun)
      ((congrArg Axis.active self).trans hg) hi).trans ?_
    rw [setAxis_opened, self]
  · have self := axis_opened s a
    refine next_of_settle (u := valleyEvent a s) rfl (by exact hs) ?_
    refine (valleyEvent_of_quiet (u := s.setAxis a { valleyOpened (s.axis a) with
      prechargeIndex := (s.axis a).prechargeIndex + 1 }) hl ha hr (stopDue_of_none hp) ?_ rfl).trans (loaded_setAxis ha)
    refine (sequencerValley_precharge (s := (s.opened a).unreported) ((congrArg Axis.state self).trans hpre)
      (self ▸ hi)).trans ?_
    rw [setAxis_opened, self, show (valleyOpened (s.axis a)).pendingStop = none from hp]
    rfl

/-! ### The boundary decision (R29 to R31) -/

section
variable {s : State} {a : AxisId}

theorem closed_of_other {x : Axis} (h : x.state ≠ .run ∨ x.active = none) : x.closed = x := by
  unfold Axis.closed
  split
  · next hs =>
    have none' := h.resolve_left (not_not_intro hs)
    rw [← none']
  · rfl

theorem closedAt_of_other (h : (s.axis a).state ≠ .run ∨ (s.axis a).active = none) : closedAt a s = s.opened a := by
  unfold closedAt
  dsimp only
  split
  · next hs hg => exact h.elim (absurd hs) fun k => by cases k.symm.trans hg
  · rfl

theorem closedAt_run {g : ActiveSegment} (hs : (s.axis a).state = .run) (hg : (s.axis a).active = some g) :
    closedAt a s = { s.setAxis a { valleyOpened (s.axis a) with active := none } with
      comp := s.comp.segmentEnded s.part a g.seg g.seg.periods.toNat g.stats } := by
  have run : (valleyOpened (s.axis a)).state = .run := hs
  have active : (valleyOpened (s.axis a)).active = some g := hg
  unfold closedAt
  dsimp only
  rw [run, active]
  exact endedOk_eq ..

/-- Closing the active segment changes the axis and the completion unit. -/
theorem closedAt_eq (a : AxisId) (s : State) : ∃ comp,
    closedAt a s = { s.setAxis a (valleyOpened (s.axis a)).closed with comp := comp } := by
  by_cases h : (s.axis a).state ≠ .run ∨ (s.axis a).active = none
  · rw [closedAt_of_other h, closed_of_other (by exact h)]
    exact ⟨s.comp, rfl⟩
  · push Not at h
    obtain ⟨hs, hg⟩ := h
    obtain ⟨g, hg⟩ := Option.ne_none_iff_exists'.mp hg
    rw [closedAt_run hs hg, Axis.closed, if_pos (by exact hs)]
    exact ⟨_, rfl⟩

theorem axis_closedAt (a : AxisId) (s : State) : (closedAt a s).axis a = (valleyOpened (s.axis a)).closed := by
  obtain ⟨comp, h⟩ := closedAt_eq a s
  rw [h]
  exact axis_setAxis_self s a _

theorem isActive_of_boundary (h : BoundaryValley (s.axis a)) : s.activeAxis a = true := by
  rw [State.activeAxis]
  rcases h with ⟨h, _⟩ | ⟨h, _⟩ | h | h <;> rw [h] <;> rfl

/-- At a boundary valley the segment that ends completes, and the next state is decided. -/
theorem sequencerValley_boundary (h : BoundaryValley (s.axis a)) :
    sequencerValley a (s.opened a).unreported = boundaryCases a (closedAt a s).unreported := by
  have self := axis_opened s a
  have state : ((s.opened a).unreported.axis a).state = (s.axis a).state := (congrArg Axis.state self).trans rfl
  unfold sequencerValley
  dsimp only
  rw [state]
  rcases h with ⟨hs, g, hg, hi⟩ | ⟨hs, hi⟩ | hs | hs
  · have active : ((s.opened a).unreported.axis a).active = some g := (congrArg Axis.active self).trans hg
    rw [hs, active, closedAt_run hs hg]
    dsimp only
    rw [if_neg (Nat.not_lt.mpr hi), closeActive, active]
    dsimp only
    rw [completeOk_eq, endedOk_eq, modAxis_eq, self, setAxis_opened]
    rfl
  · rw [hs, closedAt_of_other (.inl (by rw [hs]; decide)), if_pos]
    rw [self]
    exact (endsPrecharge_iff _).mpr ⟨hs, hi⟩
  · rw [hs, closedAt_of_other (.inl (by rw [hs]; decide))]
  · rw [hs, closedAt_of_other (.inl (by rw [hs]; decide))]

/-! The cases of the boundary decision, in order. -/

theorem boundaryCases_of_stop {tag : Half} (hp : (s.axis a).pendingStop = some tag) :
    boundaryCases a s = pendingStopEffect a tag s := by
  unfold boundaryCases
  dsimp only
  rw [hp]

theorem boundaryCases_of_staged {seg : Segment} (hp : (s.axis a).pendingStop = none) (hs : (s.axis a).staged = some seg) :
    boundaryCases a s = s.setAxis a ((s.axis a).activate seg) := by
  unfold boundaryCases
  dsimp only
  rw [hp, hs]

theorem boundaryCases_of_nothing (hp : (s.axis a).pendingStop = none) (hs : (s.axis a).staged = none) :
    boundaryCases a s = if (s.axis a).arrival ≠ none ∨ (s.axis a).state = .waitRdv then
        s.setAxis a { s.axis a with state := .waitRdv, grace := 0 }
      else if (s.axis a).endPermission then runEnd a s else graceStep a s := by
  unfold boundaryCases
  dsimp only
  rw [hp, hs]
  simp only [Bool.or_eq_true, Option.isSome_iff_ne_none, beq_iff_eq]

end

theorem steady_closedAt {s : State} (a : AxisId) (hl : s.live = true) (hq : s.part ≠ .quiescing) :
    Steady (closedAt a s) := by
  obtain ⟨comp, h⟩ := closedAt_eq a s
  rw [h]
  exact steady_of_live hl hq

theorem reports_closedAt (a : AxisId) (s : State) : (closedAt a s).reports = s.reports := by
  obtain ⟨comp, h⟩ := closedAt_eq a s
  rw [h]
  rfl

theorem live_closedAt (a : AxisId) (s : State) : (closedAt a s).live = s.live := by
  obtain ⟨comp, h⟩ := closedAt_eq a s
  rw [h]
  rfl

/-- What the boundary decision leaves of the closed axis that it looks at. -/
theorem closed_pendingStop (x : Axis) : x.closed.pendingStop = x.pendingStop := by
  unfold Axis.closed
  split <;> rfl

theorem closed_staged (x : Axis) : x.closed.staged = x.staged := by
  unfold Axis.closed
  split <;> rfl

/-- Settles O43: the record staged becomes the active segment. -/
theorem boundaryValleyStartsStagedRecord : Obligations.BoundaryValleyStartsStagedRecord := by
  intro s a seg hs hl hq hr hb hp hseg
  have self := axis_closedAt a s
  have starts := boundaryCases_of_staged (s := (closedAt a s).unreported) (a := a) (seg := seg)
    ((congrArg Axis.pendingStop self).trans ((closed_pendingStop _).trans hp))
    ((congrArg Axis.staged self).trans ((closed_staged _).trans hseg))
  refine next_of_settle (u := valleyEvent a s) rfl (by exact steady_closedAt a hl hq) ?_
  refine (valleyEvent_of_quiet (u := (closedAt a s).setAxis a (((closedAt a s).axis a).activate seg)) hl
    (isActive_of_boundary hb) hr (stopDue_of_none hp) ((sequencerValley_boundary hb).trans starts)
    (reports_closedAt a s)).trans (loaded_setAxis rfl)

theorem runEnd_eq (a : AxisId) (s : State) : runEnd a s = { s.setAxis a (s.axis a).idled with
    comp := s.comp.handed s.part (notPlayed a .flushed .none (s.axis a).fifo)
    meas := { s.meas with queue := staleFor a s.meas.queue } } := by
  unfold runEnd
  dsimp only
  rw [handOff_eq, handedOver_eq]
  rfl

/-- An axis that has taken a report is not active. -/
theorem inactive_reportTaken {s : State} (a : AxisId) (c : TripCause) (hl : s.live = true) :
    ((reportTaken a c s).axis a).state.isActive = false := by
  rcases reportTaken_cases a c hl with ⟨idle, h⟩ | ⟨tripped, h⟩ | ⟨_, h⟩
  · rw [h, idle]
    rfl
  · rw [h, axis_setAxis_self]
    show (s.axis a).state.isActive = false
    rw [tripped]
    rfl
  · rw [h, axis_trippedAt, if_pos rfl]
    rfl

/-- Settles O44: with nothing staged the axis waits, ends its run, counts grace or trips. -/
theorem boundaryValleyWithNothingStaged : Obligations.BoundaryValleyWithNothingStaged := by
  intro s a hs hl hq hr hb hp hseg
  have self := axis_closedAt a s
  have decided := (sequencerValley_boundary hb).trans (boundaryCases_of_nothing (s := (closedAt a s).unreported)
    ((congrArg Axis.pendingStop self).trans ((closed_pendingStop _).trans hp))
    ((congrArg Axis.staged self).trans ((closed_staged _).trans hseg)))
  have reports := reports_closedAt a s
  have quiet {u : State} (h : sequencerValley a (s.opened a).unreported = u.unreported)
      (hu : u.reports = (closedAt a s).reports) : valleyEvent a s = u.loaded a :=
    valleyEvent_of_quiet hl (isActive_of_boundary hb) hr (stopDue_of_none hp) h (hu.trans reports)
  have steady := steady_closedAt a hl hq
  have live := (live_closedAt a s).trans hl
  have part : (closedAt a s).part ≠ .quiescing := by
    obtain ⟨comp, h⟩ := closedAt_eq a s
    rw [h]
    exact hq
  dsimp only
  generalize closedAt a s = c at *
  refine ⟨fun hw => ?_, fun hw he => ?_, fun hw he hg => ?_, fun hw he hg => ?_⟩
  · refine next_of_settle (u := valleyEvent a s) rfl (by exact steady) ?_
    refine (quiet (u := c.setAxis a { c.axis a with state := .waitRdv, grace := 0 }) ?_ rfl).trans (loaded_setAxis rfl)
    exact decided.trans (if_pos hw)
  · have ended : handedOver (notPlayed a .flushed .none (c.axis a).fifo) { c.setAxis a (c.axis a).idled with
        meas := { c.meas with queue := staleFor a c.meas.queue } } = runEnd a c := by
      rw [runEnd_eq, handedOver_eq]
      rfl
    have idle : ((runEnd a c).axis a).state.isActive = false := by
      rw [runEnd_eq]
      exact congrArg (fun x : Axis => x.state.isActive) (axis_setAxis_self c a _)
    rw [ended]
    refine next_of_settle (u := valleyEvent a s) rfl ?_ ((quiet (u := runEnd a c) ?_ ?_).trans
      (loaded_of_inactive idle))
    · rw [runEnd_eq]
      exact steady_of_live live part
    · refine decided.trans ((if_neg hw).trans ((if_pos he).trans ?_))
      rw [runEnd_eq, runEnd_eq]
      rfl
    · rw [runEnd_eq]
      rfl
  · refine next_of_settle (u := valleyEvent a s) rfl (by exact steady) ?_
    refine (quiet (u := c.setAxis a { c.axis a with
      state := .starved, grace := if (c.axis a).state = .starved then (c.axis a).grace + 1 else 0 }) ?_ rfl).trans
      (loaded_setAxis rfl)
    exact decided.trans ((if_neg hw).trans ((if_neg (Bool.eq_false_iff.mp he)).trans (if_neg (Nat.not_le.mpr hg))))
  · have counted : ((c.setAxis a { c.axis a with
        state := .starved, grace := if (c.axis a).state = .starved then (c.axis a).grace + 1 else 0 }) : State).live =
        true := live
    refine next_of_settle (u := valleyEvent a s) rfl (steady_reportTaken a _ (by exact steady)) ?_
    rw [valleyEvent_of_no_stop hl (isActive_of_boundary hb) hr (stopDue_of_none hp)]
    refine Eq.trans ?_ (loaded_of_inactive (inactive_reportTaken a .underrun counted))
    refine congrArg (State.loaded · a) (takingOwn_of_report ?_ reports)
    exact decided.trans ((if_neg hw).trans ((if_neg (Bool.eq_false_iff.mp he)).trans (if_pos hg)))

/-! ### A pending stop takes effect (R38, R90) -/

/-- The completions of a pending stop that takes effect, in the order of R38. -/
def stopRecords (a : AxisId) (tag : Half) (x : Axis) : List Completion :=
  notPlayed a .flushed .none x.staged.toList ++ notPlayed a .flushed .none x.fifo ++
    [okCompletion tag (.stopAxis x.ringHolds)]

theorem pendingStopEffect_eq (a : AxisId) (tag : Half) (s : State) :
    pendingStopEffect a tag s = stoppedAt a (stopRecords a tag (s.axis a)) s := by
  have same : (depart a s).axis a = s.axis a := axis_congr (by rw [depart_eq_groups]) a
  rw [← stop_eq_stoppedAt, pendingStopEffect, stopRecords, same, flushedRecords_eq]
  rfl

theorem stoppedAt_unreported (a : AxisId) (done : List Completion) (s : State) :
    stoppedAt a done s.unreported = (stoppedAt a done s).unreported := by
  have groups : (departed a s.unreported).groups = (departed a s).groups := groups_departed_congr rfl rfl
  unfold stoppedAt
  rw [departed_eq, departed_eq a s, groups]
  rfl

theorem axis_stoppedAt (a : AxisId) (done : List Completion) (s : State) :
    (stoppedAt a done s).axis a = { (s.axis a).idled with consumer := (s.axis a).producer } := axis_setAxis_self _ a _

theorem reports_stoppedAt (a : AxisId) (done : List Completion) (s : State) : (stoppedAt a done s).reports = s.reports := by
  unfold stoppedAt
  rw [departed_eq]
  rfl

theorem steady_stoppedAt {s : State} (a : AxisId) (done : List Completion) (hl : s.live = true)
    (hq : s.part ≠ .quiescing) : Steady (stoppedAt a done s) := by
  unfold stoppedAt
  rw [departed_eq]
  exact steady_of_live hl hq

section
variable {s : State} {a : AxisId} {tag : Half} (hb : BoundaryValley (s.axis a) ∨ (s.axis a).state = .precharge)
  (hp : (s.axis a).pendingStop = some tag)
include hb

theorem activeAxis_of_stopValley : s.activeAxis a = true := by
  rcases hb with hb | hpre
  · exact isActive_of_boundary hb
  · rw [State.activeAxis, hpre]
    rfl

include hp

theorem stopDue_of_stopValley : (s.axis a).stopDue = true := by
  unfold Axis.stopDue
  rw [hp]
  rcases hb with (⟨hs, g, hg, hi⟩ | ⟨hs, _⟩ | hs | hs) | hs
  · simp [hs, hg, hi]
  all_goals
    rw [hs]
    rfl

theorem sequencerValley_of_stop : sequencerValley a (s.opened a).unreported =
    (stoppedAt a (stopRecords a tag ((closedAt a s).axis a)) (closedAt a s)).unreported := by
  have effect : pendingStopEffect a tag (closedAt a s).unreported = _ :=
    (pendingStopEffect_eq a tag _).trans (stoppedAt_unreported a _ (closedAt a s))
  refine Eq.trans ?_ effect
  by_cases hbound : BoundaryValley (s.axis a)
  · exact (sequencerValley_boundary hbound).trans (boundaryCases_of_stop
      ((congrArg Axis.pendingStop (axis_closedAt a s)).trans ((closed_pendingStop _).trans hp)))
  · have hs := hb.resolve_left hbound
    have hi : (s.axis a).prechargeIndex + 1 < (s.axis a).config.np := by
      by_contra hn
      exact hbound (.inr (.inl ⟨hs, Nat.not_lt.mp hn⟩))
    have self := axis_opened s a
    rw [sequencerValley_precharge ((congrArg Axis.state self).trans hs) (self ▸ hi), self,
      show (valleyOpened (s.axis a)).pendingStop = some tag from hp, closedAt_of_other (.inl (by rw [hs]; decide))]

end

theorem releaseTaken_rising (x : Axis) (seg : Segment) (rest : List Segment) :
    (x.releaseTaken seg rest).rising = x.rising := by
  unfold Axis.releaseTaken
  dsimp only
  split <;> split <;> rfl

/-- Once a release on its way has been taken, nothing of the axis's group is left to be taken at its valley. -/
theorem valleyEvent_withRelease {s : State} {a : AxisId} (hl : s.live = true) (hr : (s.axis a).rising = false)
    (hn : groupReports s a = []) (h : ReleaseOnItsWay (s.axis a)) :
    valleyEvent a (withRelease a s) = takeValley a (withRelease a s) := by
  obtain ⟨ha, _, _, seg, rest, hf, _⟩ := h
  have self : (withRelease a s).axis a = (s.axis a).releaseTaken seg rest := by
    rw [withRelease_eq hf]
    exact axis_setAxis_self s a _
  have live : (withRelease a s).live = true := by
    rw [withRelease_eq hf]
    exact hl
  have reports : groupReports (withRelease a s) a = [] := by
    rw [withRelease_eq hf]
    exact hn
  rw [valleyEvent_eq live (by rw [State.activeAxis, self, releaseTaken_isActive seg rest ha])
    (by rw [self, releaseTaken_rising, hr]),
    finishGroup_of_none (by rw [self, releaseTaken_releaseSent]) reports, ite_self]

/-- Settles O45: a pending stop takes effect at its valley, after what the axis's group has sent. -/
theorem pendingStopTakesEffectAtValley : Obligations.PendingStopTakesEffectAtValley := by
  intro s a tag hs hl hq hr hb hp
  have active := activeAxis_of_stopValley hb
  have valley : valleyEvent a s = takeValley a (finishGroup a s) := by
    rw [valleyEvent_eq hl active hr, stopDue_of_stopValley hb hp]
    rfl
  refine ⟨fun hn hrel => ?_, fun hn hrel => ?_, fun cause hc => ?_⟩
  · have target : handedOver (stopRecords a tag ((closedAt a s).axis a)) { (departed a (closedAt a s)).setAxis a
        { ((closedAt a s).axis a).idled with consumer := ((closedAt a s).axis a).producer } with
        meas := { (closedAt a s).meas with queue := staleFor a (closedAt a s).meas.queue } } =
        stoppedAt a (stopRecords a tag ((closedAt a s).axis a)) (closedAt a s) := by
      unfold stoppedAt
      rw [handedOver_eq, departed_eq]
      rfl
    dsimp only
    refine (show ∃ t, exec (.carrierValley a) s = .next t ∧ Settles (handedOver (stopRecords a tag _) _) t from ?_)
    rw [target]
    have part : (closedAt a s).part ≠ .quiescing := by
      obtain ⟨comp, h⟩ := closedAt_eq a s
      rw [h]
      exact hq
    refine next_of_settle (u := valleyEvent a s) rfl
      (steady_stoppedAt a _ ((live_closedAt a s).trans hl) part) ?_
    rw [valley, finishGroup_of_none hrel hn, takeValley_of_active active,
      takingOwn_of_quiet (sequencerValley_of_stop hb hp) ((reports_stoppedAt a _ _).trans (reports_closedAt a s))]
    exact loaded_of_inactive (by rw [axis_stoppedAt]; rfl)
  · refine congrArg (fun u => Host.Outcome.next (settle u)) (valley.trans ?_)
    rw [finishGroup_of_release hn hrel, valleyEvent_withRelease hl hr hn hrel]
  · refine next_of_settle (u := valleyEvent a s) rfl (steady_reportTaken a _ (by exact hs)) ?_
    rw [valley, finishGroup_of_report hl active hc]
    exact takeValley_of_inactive (inactive_reportTaken a cause hl)

/-! ### Reports taken (R95, R96, R100) -/

/-- Settles O46: a report taken is one event of its axis. -/
theorem tripIsOneEvent : Obligations.TripIsOneEvent := by
  intro s a cause hs
  have taken (hl : s.live = true) {u : State} (hu : reportTaken a cause { s with reports := s.reports.erase ⟨a, cause⟩ } = u) :
      ∃ t, exec (.axisTrip a cause) s = .next t ∧ Settles u t := by
    refine next_of_settle (u := takeAxisReport ⟨a, cause⟩ s) rfl ?_ ((takeAxisReport_of_live _ hl).trans hu)
    exact hu ▸ steady_reportTaken a cause (by exact hs)
  refine ⟨fun hl ha => ?_, fun hl ht => ?_, fun hl hi => ?_, fun hl => ?_⟩
  · exact taken hl (reportTaken_of_active cause hl ha)
  · rcases reportTaken_cases (s := { s with reports := s.reports.erase ⟨a, cause⟩ }) a cause hl with
      ⟨idle, _⟩ | ⟨_, h⟩ | ⟨active, _⟩
    · cases ht.symm.trans idle
    · exact taken hl h
    · exact absurd ((congrArg AxisState.isActive ht).symm.trans active) (by decide)
  · exact taken hl (if_pos (.inr (.inr hi)))
  · exact next_of_settle (u := takeAxisReport ⟨a, cause⟩ s) rfl hs (takeAxisReport_of_reset _ hl)

end Sys2Proof.Machine
end

section
/-! The modulator's rows, the valley load and the top-up monitors (chapters 3 and 4). -/

namespace Sys2Proof.Machine

/-! ### Crossings and dead times (R52, R53) -/

theorem follow_demand (g : Gate) (d : Demand) : (g.follow d).demand = d := by
  unfold Gate.follow
  split
  · next h => exact h
  · rfl

theorem follow_same (g : Gate) : g.follow g.demand = g := if_pos rfl

/-- What a leg demands is settled on the state that the event leaves. -/
theorem Settles.legDemand {s t : State} (h : Settles s t) (a : AxisId) (l : Leg) :
    legDemand t a l = Machine.legDemand s a l := by
  rw [h.frame]
  rfl

theorem Settles.axis {s t : State} (h : Settles s t) (a : AxisId) : t.axis a = s.axis a := by
  rw [h.frame]
  rfl

/-- The carrier of an active axis is about to cross the working compare of a leg (R52). -/
abbrev State.Crosses (s : State) (a : AxisId) (l : Leg) : Prop :=
  s.live = true ∧ s.activeAxis a = true ∧
    if (s.axis a).rising = true then
      (s.axis a).carrierCount < (s.axis a).work.get l ∧ (s.axis a).work.get l < (s.axis a).workH
    else 0 < (s.axis a).work.get l ∧ (s.axis a).work.get l < (s.axis a).carrierCount

theorem carrierCross_eq (a : AxisId) (l : Leg) (s : State) : carrierCross a l s =
    if s.Crosses a l then s.setAxis a { s.axis a with carrierCount := (s.axis a).work.get l } else s := by
  unfold carrierCross State.Crosses State.activeAxis
  dsimp only
  refine if_congr ?_ rfl rfl
  cases h : (s.axis a).rising <;> simp [and_assoc]

/-- An active axis whose override is clear demands the side the carrier's count calls for (R52). -/
theorem legDemand_of_active {s : State} {a : AxisId} (l : Leg) (he : s.emergency = false) (hp : s.part ≠ .resetting)
    (ha : s.activeAxis a = true) (ho : (s.axis a).workOverride = false) :
    legDemand s a l = if (s.axis a).tickCount < (s.axis a).work.get l then .high else .low := by
  unfold legDemand
  dsimp only
  rw [he, if_neg Bool.false_ne_true, if_neg hp, ho]
  rw [State.activeAxis] at ha
  cases hs : (s.axis a).state
  case idle | tripped =>
    rw [hs] at ha
    exact absurd ha Bool.false_ne_true
  all_goals rfl

/-- At the instant of a crossing the leg demands low on the rising slope and high on the falling one. -/
theorem legDemand_crossed {s : State} {a : AxisId} {l : Leg} (h : s.Crosses a l) (he : s.emergency = false)
    (ho : (s.axis a).workOverride = false) :
    legDemand (s.setAxis a { s.axis a with carrierCount := (s.axis a).work.get l }) a l =
      if (s.axis a).rising = true then .low else .high := by
  obtain ⟨hl, ha, hc⟩ := h
  have self := axis_setAxis_self s a { s.axis a with carrierCount := (s.axis a).work.get l }
  rw [legDemand_of_active l (by exact he) (by exact (live_iff.mp hl).2) (by rw [State.activeAxis, self]; exact ha)
    (by rw [self]; exact ho), self]
  dsimp only
  unfold Axis.tickCount
  dsimp only
  split at hc
  · next hr => rw [if_pos hr, if_pos hr, if_neg (lt_irrefl _)]
  · next hr => rw [if_neg hr, if_neg hr, if_pos (by omega)]

/-- Settles O47: the carrier at the compare is the crossing, and a dead time that has elapsed is one held for D. -/
theorem crossingsAndDeadTimeMoveLegs : Obligations.CrossingsAndDeadTimeMoveLegs := by
  intro s a l hs
  refine ⟨fun hn => ?_, fun hc => ?_, ?_⟩
  · exact next_of_settle (u := carrierCross a l s) rfl hs ((carrierCross_eq a l s).trans (if_neg hn))
  · obtain ⟨t, ht, settles⟩ := next_of_settle (o := exec (.carrierCrossing a l) s) rfl (by exact hs)
      ((carrierCross_eq a l s).trans (if_pos hc))
    refine ⟨t, ht, settles, fun he ho => ?_⟩
    rw [settles.gates, follow_demand, settles.legDemand, legDemand_crossed hc he ho]
  · have passed : deadTimePassed a l s = { s with gates := s.gates.set a (s.gates[a].set { s.gate a l with
        held := if (s.gate a l).demand = .neither then (s.gate a l).held
          else max (s.gate a l).held (s.axis a).config.d } l) } := by
      unfold deadTimePassed
      by_cases hd : (s.gate a l).demand = .neither
      · simp only [if_pos hd]
      · simp only [if_neg hd]
    obtain ⟨t, ht, settles⟩ := next_of_settle (o := exec (.deadTimeElapsed a l) s) rfl (by exact hs) passed
    refine ⟨t, ht, settles, fun side hd hg => ?_⟩
    rw [← passed] at settles
    have demands : (s.gate a l).demand ≠ .neither := by
      rw [hg]
      cases side <;> exact Demand.noConfusion
    have waited := gate_deadTimePassed a a l l s
    rw [if_pos ⟨rfl, rfl⟩, if_neg demands] at waited
    have gate : t.gate a l = { s.gate a l with held := max (s.gate a l).held (s.axis a).config.d } := by
      rw [settles.gates, settles.legDemand, waited, show legDemand (deadTimePassed a l s) a l = side.demand from hd, ← hg]
      exact follow_same _
    have config : (t.axis a).config = (s.axis a).config := congrArg Axis.config (settles.axis a)
    rw [switchOn, gate, config, hg, beq_self_eq_true, Bool.true_and]
    exact decide_eq_true (Nat.le_max_right _ _)

/-! ### The valley load (R49, R50) -/

theorem shortPulse_iff (width d m : Nat) :
    shortPulse width d m = true ↔ 0 < (width : Int) - d ∧ (width : Int) - d < m := by
  simp only [shortPulse, Bool.and_eq_true, decide_eq_true_eq]
  omega

/-- The minimum-pulse snap (R50, step 1). -/
theorem snap_eq {h c : Nat} (d m : Nat) (hc : c ≤ h) : (snap h d m c : Int) =
    if 0 < 2 * (c : Int) - d ∧ 2 * (c : Int) - d < m then 0
    else if 0 < 2 * ((h : Int) - c) - d ∧ 2 * ((h : Int) - c) - d < m then (h : Int) else c := by
  simp only [snap, shortPulse_iff]
  push_cast [Nat.cast_sub hc]
  split_ifs <;> rfl

/-- The highest compare the clamp leaves an URGENT leg, where the half-period can hold a top-up (R50, step 2). -/
theorem clampLimit_eq {h d tBoot : Nat} (hh : tBoot + d ≤ 2 * h) :
    (clampLimit h d tBoot : Int) = (h : Int) - ((tBoot : Int) + d + 1) / 2 := by
  unfold clampLimit
  omega

theorem clamp_eq {h d tBoot : Nat} (urgent : Bool) (c : Nat) (hh : tBoot + d ≤ 2 * h) :
    ((clamp h d tBoot urgent c).compare : Int) =
      (if urgent = true ∧ (h : Int) - ((tBoot : Int) + d + 1) / 2 < c then (h : Int) - ((tBoot : Int) + d + 1) / 2 else c) ∧
    ((clamp h d tBoot urgent c).stolen = true ↔ urgent = true ∧ (h : Int) - ((tBoot : Int) + d + 1) / 2 < c) := by
  rw [← clampLimit_eq hh]
  unfold clamp
  simp only [Bool.and_eq_true, decide_eq_true_eq, Nat.cast_lt]
  split_ifs with k
  · exact ⟨rfl, iff_of_true rfl k⟩
  · exact ⟨rfl, iff_of_false id k⟩

/-- The last snap leaves a compare that is no short pulse, and the clamp's flag (R50, step 3). -/
theorem deriveCompare_eq (h : Nat) (cfg : AxisConfig) (urgent : Bool) (c : Nat) :
    let clamped := clamp h cfg.d cfg.tBoot urgent (snap h cfg.d cfg.m c)
    ((deriveCompare h cfg urgent c).compare : Int) =
      (if 0 < 2 * (clamped.compare : Int) - cfg.d ∧ 2 * (clamped.compare : Int) - cfg.d < cfg.m then 0
        else (clamped.compare : Int)) ∧
    (deriveCompare h cfg urgent c).stolen = clamped.stolen := by
  unfold deriveCompare
  dsimp only
  generalize clamp h cfg.d cfg.tBoot urgent (snap h cfg.d cfg.m c) = clamped
  have short := shortPulse_iff (2 * clamped.compare) cfg.d cfg.m
  push_cast at short
  split_ifs with h1 h2 h2
  · exact ⟨rfl, rfl⟩
  · exact absurd (short.mp h1) h2
  · exact absurd (short.mpr h2) h1
  · exact ⟨rfl, rfl⟩

/-- Settles O51: snap, clamp and snap, and what the load counts. -/
theorem valleyLoadDerivesCompares : Obligations.ValleyLoadDerivesCompares := by
  intro x l ⟨_, _, hdm, hboot⟩ hc
  have fits : x.config.tBoot + x.config.d ≤ 2 * x.shadowH := by omega
  have snapped := snap_eq x.config.d x.config.m hc
  obtain ⟨clamped, stolen⟩ := clamp_eq (x.monitors.get l).urgent
    (snap x.shadowH x.config.d x.config.m (x.shadow.get l)) fits
  have derived : x.derived.get l = deriveCompare x.shadowH x.config (x.monitors.get l).urgent (x.shadow.get l) :=
    legs_get_of _ l
  have work : x.load.work.get l = (x.derived.get l).compare := legs_get_of _ l
  rw [snapped] at clamped stolen
  obtain ⟨compare, kept⟩ := deriveCompare_eq x.shadowH x.config (x.monitors.get l).urgent (x.shadow.get l)
  rw [clamped] at compare
  rw [← derived] at compare kept
  refine ⟨rfl, ?_, ?_, fun hu hb hm => ?_⟩
  · rw [work]
    exact compare
  · rw [kept]
    exact stolen
  · rw [work]
    have low : ((x.derived.get l).compare : Int) ≤
        (x.shadowH : Int) - ((x.config.tBoot : Int) + x.config.d + 1) / 2 := by
      rw [compare]
      simp only [show (x.monitors.get l).urgent = true from hu, true_and]
      split_ifs <;> omega
    rw [lowOnTime, if_neg Bool.false_ne_true]
    split_ifs <;> omega

/-! ### The top-up monitors (R68 to R75) -/

theorem highOnTime_ne_zero (h d c : Nat) (override : Bool) :
    highOnTime h d override c ≠ 0 ↔ override = false ∧ 0 < c ∧ (h ≤ c ∧ 0 < h ∨ c < h ∧ d < 2 * c) := by
  unfold highOnTime
  split_ifs with ho hc hh
  all_goals simp_all
  all_goals omega

theorem qualifies_iff {h d c tBoot : Nat} (override : Bool) (hb : tBoot ≠ 0) :
    ((!override && decide (tBoot ≤ lowOnTime h d override c)) = true) ↔
      override = false ∧ (if c = 0 then tBoot ≤ 2 * h else c < h ∧ tBoot + d ≤ 2 * (h - c)) := by
  unfold lowOnTime
  cases override
  · simp
    split_ifs
    all_goals omega
  · simp

/-- URGENT is set at 3, cleared at 0 and kept between (R70). -/
theorem urgent_iff (backlog : Nat) (urgent : Bool) :
    (if backlog = 3 then true else if backlog = 0 then false else urgent) = true ↔
      backlog = 3 ∨ (backlog ≠ 0 ∧ urgent = true) := by
  split_ifs with h3 h0
  · exact iff_of_true rfl (.inl h3)
  · exact iff_of_false id (by omega)
  · exact ⟨fun h => .inr ⟨h0, h⟩, fun h => (h.resolve_left h3).2⟩

/-- One valley's account of a monitor within its ranges, in the words of R68 to R70. -/
theorem account_eq {r on tBoot low : Nat} {override : Bool} {m : Monitor} {high qualifies : Prop} [Decidable high]
    [Decidable qualifies] (hm : m.requests < r) (hon : on ≠ 0 ↔ high)
    (hlow : (!override && decide (tBoot ≤ low)) = true ↔ qualifies) :
    let m' := ((m.highSideStep r on).qualifyingStep tBoot override low).updateUrgent
    let backlog := if high ∧ m.requests + 1 = r then min 3 (m.backlog + 1) else m.backlog
    m'.requests = (if high ∧ m.requests + 1 = r then 0 else if high then m.requests + 1 else m.requests) ∧
      m'.backlog = (if qualifies then backlog - 1 else backlog) ∧
      (m'.urgent = true ↔ m'.backlog = 3 ∨ (m'.backlog ≠ 0 ∧ m.urgent = true)) := by
  have step : m.highSideStep r on = { m with
      requests := if high ∧ m.requests + 1 = r then 0 else if high then m.requests + 1 else m.requests
      backlog := if high ∧ m.requests + 1 = r then min 3 (m.backlog + 1) else m.backlog } := by
    unfold Monitor.highSideStep
    by_cases hh : high
    · rw [if_neg (hon.mpr hh)]
      by_cases hw : m.requests + 1 = r
      · simp only [hh, hw, le_refl, and_self, if_true]
      · simp only [hh, hw, show ¬ r ≤ m.requests + 1 by omega, and_false, if_true, if_false]
    · rw [if_pos (not_not.mp fun k => hh (hon.mp k))]
      simp only [hh, false_and, if_false]
  rw [step]
  dsimp only
  generalize (if high ∧ m.requests + 1 = r then min 3 (m.backlog + 1) else m.backlog) = backlog
  unfold Monitor.qualifyingStep Monitor.updateUrgent
  by_cases hq : qualifies
  · rw [if_pos (hlow.mpr hq), if_pos hq]
    exact ⟨rfl, rfl, urgent_iff _ _⟩
  · rw [if_neg fun k => hq (hlow.mp k), if_neg hq]
    exact ⟨rfl, rfl, urgent_iff _ _⟩

/-- Settles O52: `valleyOpened` accounts each leg on its own, and at the end of precharge resets it. -/
theorem monitorAccountsForPeriod : Obligations.MonitorAccountsForPeriod := by
  intro x l
  have account : (valleyOpened x).monitors.get l = if x.endsPrecharge then .reset
      else (x.monitors.get l).account x.config x.workH x.workOverride (x.work.get l) := by
    unfold valleyOpened Axis.account
    dsimp only
    split
    · cases l <;> rfl
    · exact legs_get_of _ l
  refine ⟨fun h => ?_, fun hn hb hm _ => ?_⟩
  · rw [account]
    split
    · rfl
    · next he =>
      rw [Monitor.account, if_pos (h.resolve_left fun k => he ((endsPrecharge_iff x).mpr k))]
      rfl
  · rw [account, if_neg fun k => hn ((endsPrecharge_iff x).mp k), Monitor.account, if_neg hb]
    have high := highOnTime_ne_zero x.workH x.config.d (x.work.get l) x.workOverride
    have pays := qualifies_iff (h := x.workH) (d := x.config.d) (c := x.work.get l) x.workOverride hb
    exact account_eq hm high pays

end Sys2Proof.Machine
end

section
/-! The arbiters of the two channels (R138 to R143, R158, R188). -/

namespace Sys2Proof.Machine

/-! ### Eligible rings and their order (R138, R139, R142) -/

section
variable {s : State}

theorem axisEligible_iff (h : s.readTxn = none) (a : AxisId) : s.axisEligible a = true ↔ Eligible s (.axis a) := by
  have free : s.readInFlight a = false := by rw [State.readInFlight, h]
  simp only [State.axisEligible, State.placesTaken, free, Bool.and_eq_true, beq_iff_eq, Option.isNone_iff_eq_none,
    decide_eq_true_eq, Bool.toNat_false, Nat.add_zero, Nat.pos_iff_ne_zero, grantable_iff, Eligible, Config.fifoDepth,
    and_assoc]

theorem adminEligible_iff : s.adminEligible = true ↔ Eligible s .admin := by
  simp only [State.adminEligible, Bool.and_eq_true, Bool.or_eq_true, beq_iff_eq, decide_eq_true_eq,
    Nat.pos_iff_ne_zero, grantable_iff, Eligible, and_assoc]

theorem classOne_eq (x : Axis) : x.classOne = decide (x.state = .starved ∧ x.fifo = []) := by
  rw [Axis.classOne, Bool.decide_and]
  cases x.fifo <;> rfl

theorem classOne_iff (a : AxisId) : (s.axis a).classOne = true ↔ ringClass s (.axis a) = 1 := by
  rw [classOne_eq, decide_eq_true_eq]
  unfold ringClass
  dsimp only
  split_ifs with h1 h2
  · exact iff_of_true h1 rfl
  · exact iff_of_false h1 (by decide)
  · exact iff_of_false h1 (by decide)

theorem classTwo_iff (a : AxisId) : (s.axis a).classTwo = true ↔ ringClass s (.axis a) = 2 := by
  rw [Axis.classTwo, classOne_eq, Bool.and_eq_true, Bool.not_eq_true', decide_eq_false_iff_not, decide_eq_true_eq]
  unfold ringClass
  dsimp only
  split_ifs with h1 h2
  · exact iff_of_false (fun h => h.1 h1) (by decide)
  · exact iff_of_true ⟨h1, h2⟩ rfl
  · exact iff_of_false (fun h => h2 h.2) (by decide)

theorem ringClass_axis (a : AxisId) :
    ringClass s (.axis a) = 1 ∨ ringClass s (.axis a) = 2 ∨ ringClass s (.axis a) = 4 := by
  unfold ringClass
  dsimp only
  split_ifs
  · exact .inl rfl
  · exact .inr (.inl rfl)
  · exact .inr (.inr rfl)

/-- The axes stand in the round robin in the order of their turns (R142). -/
theorem pairwise_roundRobin (s : State) :
    (roundRobin s.arbiter).Pairwise fun a b => turn s (.axis a) ≤ turn s (.axis b) := by
  have order : ∀ p : AxisId,
      (roundRobin p).Pairwise fun a b => (a.val + 3 - p.val) % 4 ≤ (b.val + 3 - p.val) % 4 := by decide
  exact order s.arbiter

theorem mem_roundRobin (p a : AxisId) : a ∈ roundRobin p := by
  revert p a
  decide

/-- Of the axes with a property that are eligible, the first found in the round robin is the next in turn. -/
theorem turn_le_of_find {p : AxisId → Bool} {a b : AxisId}
    (h : ((roundRobin s.arbiter).filter s.axisEligible).find? p = some a) (hb : s.axisEligible b = true) (hp : p b = true) :
    turn s (.axis a) ≤ turn s (.axis b) := by
  have sorted := (pairwise_roundRobin s).filter s.axisEligible
  have mem : b ∈ (roundRobin s.arbiter).filter s.axisEligible := List.mem_filter.mpr ⟨mem_roundRobin _ b, hb⟩
  obtain ⟨_, before, after, split, none'⟩ := List.find?_eq_some_iff_append.mp h
  rw [split] at sorted mem
  rcases List.mem_append.mp mem with hm | hm
  · have := none' b hm
    rw [hp] at this
    cases this
  · rcases List.mem_cons.mp hm with rfl | hm
    · exact le_refl _
    · exact List.rel_of_pairwise_cons (List.pairwise_append.mp sorted).2.1 hm

/-! ### The choice (R141) -/

/-- The eligible axes in the order of the round robin. -/
def State.claimants (s : State) : List AxisId := (roundRobin s.arbiter).filter s.axisEligible

/-- The first ring of the first class that has an eligible one, the classes looked at in order. -/
theorem arbiterChoice_cases (s : State) :
    (∃ a, s.claimants.find? (fun a => (s.axis a).classOne) = some a ∧ arbiterChoice s = some (.axis a)) ∨
    s.claimants.find? (fun a => (s.axis a).classOne) = none ∧
      ((∃ a, s.claimants.find? (fun a => (s.axis a).classTwo) = some a ∧ arbiterChoice s = some (.axis a)) ∨
      s.claimants.find? (fun a => (s.axis a).classTwo) = none ∧
        (s.adminEligible = true ∧ arbiterChoice s = some .admin ∨
        s.adminEligible = false ∧ arbiterChoice s = (s.claimants.find? fun _ => true).map .axis)) := by
  unfold arbiterChoice
  dsimp only
  rw [show (roundRobin s.arbiter).filter s.axisEligible = s.claimants from rfl]
  cases s.claimants.find? (fun a => (s.axis a).classOne) with
  | some a => exact .inl ⟨a, rfl, rfl⟩
  | none =>
    refine .inr ⟨rfl, ?_⟩
    cases s.claimants.find? (fun a => (s.axis a).classTwo) with
    | some a => exact .inl ⟨a, rfl, rfl⟩
    | none =>
      refine .inr ⟨rfl, ?_⟩
      cases s.adminEligible
      · refine .inr ⟨rfl, ?_⟩
        cases s.claimants <;> rfl
      · exact .inl ⟨rfl, rfl⟩

theorem mem_claimants {a : AxisId} : a ∈ s.claimants ↔ s.axisEligible a = true := by
  simp [State.claimants, mem_roundRobin]

theorem not_classOne (hn : s.claimants.find? (fun a => (s.axis a).classOne) = none) {a : AxisId}
    (h : s.axisEligible a = true) : ringClass s (.axis a) ≠ 1 := fun hc =>
  List.find?_eq_none.mp hn a (mem_claimants.mpr h) ((classOne_iff a).mpr hc)

theorem not_classTwo (hn : s.claimants.find? (fun a => (s.axis a).classTwo) = none) {a : AxisId}
    (h : s.axisEligible a = true) : ringClass s (.axis a) ≠ 2 := fun hc =>
  List.find?_eq_none.mp hn a (mem_claimants.mpr h) ((classTwo_iff a).mpr hc)

/-- No ring is chosen exactly where none is eligible. -/
theorem arbiterChoice_eq_none_iff (h : s.readTxn = none) : arbiterChoice s = none ↔ ∀ ring, ¬ Eligible s ring := by
  constructor
  · intro hc ring hr
    rcases arbiterChoice_cases s with ⟨a, _, k⟩ | ⟨_, ⟨a, _, k⟩ | ⟨_, ⟨_, k⟩ | ⟨ha, k⟩⟩⟩ <;> rw [k] at hc
    case inr.inr.inr =>
      cases ring with
      | axis b =>
        exact List.find?_eq_none.mp (Option.map_eq_none_iff.mp hc) b
          (mem_claimants.mpr ((axisEligible_iff h b).mpr hr)) rfl
      | admin => exact Bool.false_ne_true (ha.symm.trans (adminEligible_iff.mpr hr))
    all_goals cases hc
  · intro hn
    by_contra hc
    obtain ⟨ring, hc⟩ := Option.ne_none_iff_exists'.mp hc
    have eligible := eligible_of_arbiterChoice hc
    cases ring with
    | axis a => exact hn _ ((axisEligible_iff h a).mp eligible)
    | admin => exact hn _ (adminEligible_iff.mp eligible)

/-- No eligible ring is of a lower class than the one chosen, and none of its class is earlier in turn. -/
theorem arbiterChoice_first (h : s.readTxn = none) {ring other : RingId} (hc : arbiterChoice s = some ring)
    (ho : Eligible s other) : ringClass s ring < ringClass s other ∨
      ringClass s ring = ringClass s other ∧ turn s ring ≤ turn s other := by
  have eligible {b : AxisId} (hb : Eligible s (.axis b)) := (axisEligible_iff h b).mpr hb
  have admin : ringClass s .admin = 3 := rfl
  rcases arbiterChoice_cases s with ⟨a, hf, k⟩ | ⟨h1, ⟨a, hf, k⟩ | ⟨h2, ⟨_, k⟩ | ⟨ha, k⟩⟩⟩ <;> rw [k] at hc
  · obtain rfl := Option.some.inj hc
    have one := (classOne_iff a).mp (List.find?_some (p := fun a => (s.axis a).classOne) hf)
    cases other with
    | axis b =>
      rcases ringClass_axis (s := s) b with hb | hb | hb
      · exact .inr ⟨one.trans hb.symm, turn_le_of_find hf (eligible ho) ((classOne_iff b).mpr hb)⟩
      · exact .inl (by omega)
      · exact .inl (by omega)
    | admin => exact .inl (by omega)
  · obtain rfl := Option.some.inj hc
    have two := (classTwo_iff a).mp (List.find?_some (p := fun a => (s.axis a).classTwo) hf)
    cases other with
    | axis b =>
      rcases ringClass_axis (s := s) b with hb | hb | hb
      · exact absurd hb (not_classOne h1 (eligible ho))
      · exact .inr ⟨two.trans hb.symm, turn_le_of_find hf (eligible ho) ((classTwo_iff b).mpr hb)⟩
      · exact .inl (by omega)
    | admin => exact .inl (by omega)
  · obtain rfl := Option.some.inj hc
    cases other with
    | axis b =>
      rcases ringClass_axis (s := s) b with hb | hb | hb
      · exact absurd hb (not_classOne h1 (eligible ho))
      · exact absurd hb (not_classTwo h2 (eligible ho))
      · exact .inl (by omega)
    | admin => exact .inr ⟨rfl, le_refl _⟩
  · obtain ⟨a, hf, rfl⟩ := Option.map_eq_some_iff.mp hc
    have four {b : AxisId} (hb : s.axisEligible b = true) : ringClass s (.axis b) = 4 :=
      ((ringClass_axis b).resolve_left (not_classOne h1 hb)).resolve_left (not_classTwo h2 hb)
    cases other with
    | axis b =>
      have first := four (mem_claimants.mp (List.mem_of_find?_eq_some hf))
      exact .inr ⟨first.trans (four (eligible ho)).symm, turn_le_of_find hf (eligible ho) rfl⟩
    | admin => exact absurd (adminEligible_iff.mpr ho) (Bool.eq_false_iff.mp ha)

end

/-! ### The issues at a quiet instant (R141, R158, R199) -/

theorem exec_quiesceEnd {s : State} (h : Steady s) : ∃ t, exec .quiesceEnd s = .next t ∧ Settles s t :=
  next_of_settle rfl h (endQuiesce_of_steady h)

/-- A snapshot that waits goes first. -/
theorem writeIssued_of_snapshot {s : State} {w : SnapshotWork} (hf : WriteFree s) (hs : s.admin.snapshot = some w)
    (hw : w.issued = false) :
    writeIssued s = some ⟨.snapshot, w.address, w.data, loaded s.globals.writeTimeout⟩ := by
  obtain ⟨address, data, formed, issued⟩ := w
  obtain rfl : issued = false := hw
  rw [writeIssued, if_pos hf, hs]

/-- With no snapshot waiting the head of the pending queue is written. -/
theorem writeIssued_of_queue {s : State} (hf : WriteFree s) (hs : ∀ w ∈ s.admin.snapshot, w.issued = true) :
    writeIssued s = s.comp.queue.head?.map fun c =>
      ⟨.completion, s.comp.ringBase + BitVec.ofNat 32 (16 * s.comp.producer), completionBytes s.comp.lap c,
        loaded s.globals.writeTimeout⟩ := by
  rw [writeIssued, if_pos hf]
  split
  · next hw => exact absurd (hs _ (Option.mem_def.mpr hw)) Bool.false_ne_true
  · next hq _ =>
    rw [hq]
    rfl
  · next hq _ =>
    rw [hq]
    rfl

/-- Settles O48: each arbiter serves the claimant that comes first. -/
theorem arbitersServeClaimants : Obligations.ArbitersServeClaimants := by
  intro s
  refine ⟨fun hn => ⟨arbiterChoice_eq_none_iff hn, fun ring hc => ⟨?_, fun other ho => arbiterChoice_first hn hc ho,
    fun hs => ?_⟩⟩, fun hs hw hf hr => ⟨fun w hsnap hwait => ?_, fun hsnap c rest hq => ?_, fun hsnap hq => ?_⟩⟩
  · have := eligible_of_arbiterChoice hc
    cases ring with
    | axis a => exact (axisEligible_iff hn a).mp this
    | admin => exact adminEligible_iff.mp this
  · obtain ⟨t, ht, settles⟩ := exec_quiesceEnd hs
    have served : servedRing s = some ring := (if_pos hn).trans hc
    have read := settles.readTxn
    have position := settles.arbiter
    have admin := settles.adminState
    rw [readIssued, served] at read
    rw [served] at position admin
    refine ⟨t, ht, settles, _, read, rfl, rfl, rfl, ?_⟩
    cases ring with
    | axis a => exact ⟨position, rfl⟩
    | admin => exact ⟨position, admin.trans (if_pos rfl), rfl⟩
  · obtain ⟨t, ht, settles⟩ := exec_quiesceEnd hs
    have free : WriteFree s := ⟨hw, hf, hr⟩
    refine ⟨t, ht, settles, ?_, ?_, ?_⟩
    · rw [settles.writeTxn, writeIssued_of_snapshot free hsnap hwait]
      rfl
    · rw [settles.snapshot, if_pos free, hsnap]
      rfl
    · rw [settles.frame]
  · obtain ⟨t, ht, settles⟩ := exec_quiesceEnd hs
    refine ⟨t, ht, settles, by rw [settles.frame], ?_⟩
    rw [settles.writeTxn, writeIssued_of_queue ⟨hw, hf, hr⟩ hsnap, hq]
    rfl
  · obtain ⟨t, ht, settles⟩ := exec_quiesceEnd hs
    refine ⟨t, ht, settles, ?_⟩
    rw [settles.writeTxn, writeIssued_of_queue ⟨hw, hf, hr⟩ hsnap, hq]
    rfl

end Sys2Proof.Machine
end

section
/-! The clock of the part and what its events leave of it (R200). -/

namespace Sys2Proof.Machine

/-! ### What every event leaves of the clock (R200) -/

/-- The part takes events. -/
abbrev State.Awake (s : State) : Prop := s.resetLow = false ∧ s.part ≠ .resetting

/-- n microseconds have passed from s to t, and the part has stayed awake. -/
structure Passed (n : Nat) (s t : State) : Prop where
  timebase : t.timebase = s.timebase + BitVec.ofNat 32 n
  subTick : t.subTick = if n = 0 then s.subTick else 0
  resetLow : t.resetLow = s.resetLow
  part : s.part ≠ .resetting → t.part ≠ .resetting

namespace Passed

theorem of_frame {s t : State} (h1 : t.timebase = s.timebase) (h2 : t.subTick = s.subTick)
    (h3 : t.resetLow = s.resetLow) (h4 : t.part = s.part) : Passed 0 s t :=
  ⟨by rw [h1]; exact (BitVec.add_zero _).symm, h2, h3, fun h => h4 ▸ h⟩

theorem refl (s : State) : Passed 0 s s := of_frame rfl rfl rfl rfl

theorem trans {m n : Nat} {s t u : State} (h : Passed m s t) (k : Passed n t u) : Passed (m + n) s u := by
  refine ⟨?_, ?_, k.resetLow.trans h.resetLow, fun hp => k.part (h.part hp)⟩
  · rw [k.timebase, h.timebase, BitVec.ofNat_add, BitVec.add_assoc]
  · rw [k.subTick, h.subTick]
    by_cases hm : m = 0 <;> by_cases hn : n = 0 <;> simp [hm, hn]

theorem awake {n : Nat} {s t : State} (h : Passed n s t) (hs : s.Awake) : t.Awake :=
  ⟨h.resetLow.trans hs.1, h.part hs.2⟩

theorem of_side {s t : State} (h : AxisSide s t) : Passed 0 s t := of_frame h.timebase h.subTick h.resetLow h.part

/-- The end of an event outside RESETTING leaves the clock. -/
theorem settle {s : State} (h : s.part ≠ .resetting) : Passed 0 s (settle s) := by
  have settled : Settles (endQuiesce s) (Machine.settle s) := by
    rw [← settle_endQuiesce]
    exact settles_settle (steady_endQuiesce h)
  have ends : Passed 0 s (endQuiesce s) := by
    unfold endQuiesce
    split
    · exact ⟨(BitVec.add_zero _).symm, rfl, rfl, fun _ => PartState.noConfusion⟩
    · exact refl s
  refine ends.trans (of_frame ?_ ?_ ?_ ?_) <;> rw [settled.frame]

/-! The operations of an event that are no part of the axis side. -/

theorem releaseRead (s : State) (r : ReadTxn) : Passed 0 s (releaseRead r s) := by
  unfold Machine.releaseRead
  split
  · exact of_frame rfl rfl rfl rfl
  · exact refl s

theorem recordFault (s : State) (b : FaultBit) : Passed 0 s (recordFault b s) := by
  rw [recordFault_eq]
  exact of_frame rfl rfl rfl rfl

theorem finishCommand (tag : Half) (status : Status) (detail : Detail) (result : AdminResult) (s : State) :
    Passed 0 s (finishCommand tag status detail result s) :=
  (of_side (AxisSide.handOff s _)).trans (n := 0) (of_frame rfl rfl rfl rfl)

theorem ended (s : State) (done : Completion) : Passed 0 s (ended s done) := by
  unfold Machine.ended
  rw [handedOver_eq]
  exact of_frame rfl rfl rfl rfl

theorem waitedCommand (c : AdminCommand) (a : AxisId) (s : State) :
    Passed 0 s (Machine.ended (waitedCommand c a s).1 (waitedCommand c a s).2) := by
  obtain ⟨axes, reports, frame⟩ := waitedCommand_frame c a s
  have tested : Passed 0 s (Machine.waitedCommand c a s).1 := by
    rw [frame]
    exact of_frame rfl rfl rfl rfl
  exact tested.trans (ended _ _)

theorem runClearFault (tag : Half) (axis disposition : Byte) (s : State) :
    Passed 0 s (runClearFault tag axis disposition s) := by
  unfold Machine.runClearFault
  rcases axisOfByte axis with _ | a
  · exact finishCommand _ _ _ _ s
  · dsimp only
    split
    · exact finishCommand _ _ _ _ s
    · rcases clearRefusal s a with _ | reason
      · have cleared : ∀ x, Passed 0 s (s.setAxis a x) := fun x => of_frame rfl rfl rfl rfl
        exact (cleared _).trans (finishCommand _ _ _ _ _)
      · exact finishCommand _ _ _ _ s

/-- The commands that wait for a read of an axis's ring. -/
theorem runCommand_of_ring {c : AdminCommand} {a : AxisId} (h : c.ringAxis = some a) (s : State) :
    Passed 0 s (runCommand c s) := by
  obtain ⟨tag, body⟩ := c
  cases body with
  | startAxis axis =>
    show Passed 0 s (runStartAxis tag axis s)
    rw [runStartAxis_eq (axisOfByte_eq_some.mp h)]
    exact waitedCommand _ a s
  | setAxisRing axis base size =>
    show Passed 0 s (runSetAxisRing tag axis base size s)
    rw [runSetAxisRing_eq (axisOfByte_eq_some.mp h)]
    exact waitedCommand _ a s
  | clearFault axis disposition => exact runClearFault tag axis disposition s
  | _ => cases h

theorem resumeCommand (a : AxisId) (s : State) : Passed 0 s (resumeCommand a s) := by
  unfold Machine.resumeCommand
  cases s.admin.state with
  | executing =>
    rcases s.admin.current with _ | c
    · exact refl s
    · dsimp only
      split
      · next h => exact runCommand_of_ring h s
      · exact refl s
  | _ => exact refl s

theorem axisReadFails (kind : FaultKind) (s : State) : Passed 0 s (axisReadFails kind s) := by
  unfold Machine.axisReadFails
  rcases s.readTxn with _ | ⟨ring, address, reserved, counter⟩
  · exact refl s
  · cases ring with
    | admin => exact refl s
    | axis a =>
      have taken : Passed 0 s { s with readTxn := none } := of_frame rfl rfl rfl rfl
      dsimp only
      split
      · exact taken
      · have released := (taken.trans (recordFault _ (.transaction (.axis a) kind))).trans
          (releaseRead _ ⟨.axis a, address, reserved, counter⟩)
        exact (released.trans (of_side (AxisSide.takeReport _ ⟨a, .fetchFault⟩))).trans (resumeCommand a _)

theorem adminReadFails (kind : FaultKind) (s : State) : Passed 0 s (adminReadFails kind s) := by
  unfold Machine.adminReadFails
  rcases s.readTxn with _ | ⟨ring, address, reserved, counter⟩
  · exact refl s
  · cases ring with
    | axis a => exact refl s
    | admin =>
      have taken : Passed 0 s { s with readTxn := none } := of_frame rfl rfl rfl rfl
      dsimp only
      split
      · exact taken
      · have released := (taken.trans (recordFault _ (.transaction .admin kind))).trans
          (releaseRead _ ⟨.admin, address, reserved, counter⟩)
        exact released.trans (n := 0) (of_frame rfl rfl rfl rfl)

theorem abandonSnapshot (s : State) : Passed 0 s (abandonSnapshot s) := by
  unfold Machine.abandonSnapshot
  rcases s.admin.snapshot with _ | ⟨address, data, formedAt, issued⟩
  · exact refl s
  · cases issued
    · exact of_frame rfl rfl rfl rfl
    · exact refl s

/-- The part becomes FAILED, which is not RESETTING. -/
theorem enterFailed (s : State) : Passed 0 s (enterFailed s) := by
  have failed : Passed 0 s (discardPending { s with part := .failed }) :=
    ⟨(BitVec.add_zero _).symm, rfl, rfl, fun _ => PartState.noConfusion⟩
  exact (failed.trans (abandonSnapshot _)).trans (n := 0) (of_frame rfl rfl rfl rfl)

theorem completionFails (kind : FaultKind) (s : State) : Passed 0 s (completionFails kind s) := by
  have taken : Passed 0 s { s with writeTxn := none } := of_frame rfl rfl rfl rfl
  have failed := (taken.trans (recordFault _ (.transaction .completion kind))).trans (enterFailed _)
  unfold Machine.completionFails
  rcases s.writeTxn with _ | ⟨target, address, data, counter⟩
  · exact refl s
  · cases target with
    | snapshot => exact refl s
    | completion =>
      dsimp only
      split
      · exact taken
      · exact failed

theorem snapshotFails (kind : FaultKind) (s : State) : Passed 0 s (snapshotFails kind s) := by
  have taken : Passed 0 s { s with writeTxn := none } := of_frame rfl rfl rfl rfl
  have ends := (taken.trans (recordFault _ (.transaction .snapshot kind))).trans
    (finishCommand s.admin.currentTag .writeFault .none .zero _)
  unfold Machine.snapshotFails
  rcases s.writeTxn with _ | ⟨target, address, data, counter⟩
  · exact refl s
  · cases target with
    | completion => exact refl s
    | snapshot =>
      rcases s.admin.snapshot with _ | work
      · exact taken
      · dsimp only
        split
        · exact taken
        · exact ends

theorem portTimesOut (channel : Channel) (s : State) : Passed 0 s (portTimesOut channel s) := by
  unfold Machine.portTimesOut
  cases channel with
  | read =>
    rcases s.readTxn with _ | ⟨ring, address, reserved, counter⟩
    · exact refl s
    · dsimp only
      split
      · exact refl s
      · cases ring with
        | axis a => exact axisReadFails _ s
        | admin => exact adminReadFails _ s
  | write =>
    rcases s.writeTxn with _ | ⟨target, address, data, counter⟩
    · exact refl s
    · dsimp only
      split
      · exact refl s
      · cases target with
        | completion => exact completionFails _ s
        | snapshot => exact snapshotFails _ s

theorem expire (x : Timer) (s : State) : Passed 0 s (expire x s) := by
  cases x with
  | group g => exact of_side (AxisSide.groupTimeout s g)
  | coalescing =>
    show Passed 0 s (coalescingExpires s)
    unfold coalescingExpires
    split
    · exact of_frame rfl rfl rfl rfl
    · exact refl s
  | bus =>
    show Passed 0 s (busTimerExpires s)
    unfold busTimerExpires busRequest
    split
    · split
      · exact of_frame rfl rfl rfl rfl
      · exact of_frame rfl rfl rfl rfl
    · exact refl s
  | port channel => exact portTimesOut channel s

/-- Events taken one after the other, in any order. -/
theorem takeInOrder {α : Type} {take : α → State → State} {ticks : α → Nat}
    (htake : ∀ e s, s.Awake → Passed (ticks e) s (take e s)) (bound : Nat) (due : List α) (s : State)
    (hb : due.length ≤ bound) (hs : s.Awake) : Passed (due.map ticks).sum s (takeInOrder take bound due s) := by
  induction bound generalizing due s with
  | zero =>
    rw [List.length_eq_zero_iff.mp (Nat.le_zero.mp hb)]
    exact refl s
  | succ bound ih =>
    unfold Machine.takeInOrder
    split
    · next hn =>
      rw [pickNext_eq_none hn]
      exact refl s
    · next e rest hp =>
      have perm := pickNext_perm hp
      have counted : Passed 0 s (if rest.isEmpty then s else { s with freeCount := s.freeCount + 1 }) := by
        split
        · exact refl s
        · exact of_frame rfl rfl rfl rfl
      have first := counted.trans (htake e _ (counted.awake hs))
      rw [Nat.zero_add] at first
      have total : (due.map ticks).sum = ticks e + (rest.map ticks).sum := (perm.map ticks).sum_eq
      have length := perm.length_eq
      rw [total]
      exact first.trans (ih rest _ (by simp only [List.length_cons] at length; omega) (first.awake hs))

/-- An increment is one microsecond (R200). -/
theorem timebaseEvent {s : State} (hs : s.Awake) : Passed 1 s (timebaseEvent s) := by
  have later : Passed 1 s (advanceMicrosecond s) := ⟨rfl, rfl, rfl, id⟩
  unfold Machine.timebaseEvent
  rw [hs.1]
  have expiries := takeInOrder (take := expireEvent) (ticks := fun _ => 0)
    (fun x u hu => (expire x u).trans (settle ((expire x u).part hu.2))) _
    (timers.filter fun t => timeLeft (advanceMicrosecond s) t == some 0) _ (le_refl _) (later.awake hs)
  rw [List.map_const', List.sum_replicate, smul_zero] at expiries
  exact later.trans expiries

theorem takeAxisResult (codeU codeV : BitVec 12) (s : State) : Passed 0 s (takeAxisResult codeU codeV s) := by
  unfold Machine.takeAxisResult
  split
  · exact refl s
  · split
    · split
      · have taken : Passed 0 s { s with meas := s.meas.dropHead } := of_frame rfl rfl rfl rfl
        dsimp only
        split
        · exact taken
        · exact taken.trans (of_side (AxisSide.processAxisResult _ _ _ _))
      · exact refl s
    · exact refl s

theorem takeBusResult (code : BitVec 12) (s : State) : Passed 0 s (takeBusResult code s) := by
  unfold Machine.takeBusResult
  split
  · exact refl s
  · split
    · split
      · unfold processBusResult foldBusCode
        rw [foldl_modAxis]
        dsimp only
        split <;> split <;> exact of_frame rfl rfl rfl rfl
      · exact refl s
    · exact refl s

end Passed

/-- How many microseconds an event of a tick is. -/
def TickEvent.microseconds (e : TickEvent) : Nat := if e = .timebase then 1 else 0

theorem Passed.takeTickEvent (e : TickEvent) {s : State} (hs : s.Awake) : Passed e.microseconds s (takeTickEvent e s) := by
  unfold Machine.takeTickEvent
  cases e with
  | report r =>
    dsimp only
    split
    · exact of_side (AxisSide.takeAxisReport s r)
    · exact refl s
  | release a => exact of_side (AxisSide.releaseEvent s a)
  | carrier a =>
    dsimp only
    split
    · exact of_side (AxisSide.peakEvent s a)
    · exact of_side (AxisSide.valleyEvent s a)
  | legU =>
    show Passed 0 s (legUEnds s)
    unfold legUEnds Measurement.endLegU
    split
    · exact of_frame rfl rfl rfl rfl
    · exact refl s
  | result =>
    show Passed 0 s (resultEvent s)
    have counted : Passed 0 s { s with freeCount := s.freeCount + 2 } := of_frame rfl rfl rfl rfl
    unfold resultEvent
    dsimp only
    rcases s.meas.queue.head?.map ConvRequest.source with _ | (a | _)
    · exact refl s
    · exact counted.trans (takeAxisResult _ _ _)
    · exact counted.trans (takeBusResult _ _)
  | timebase => exact timebaseEvent hs

end Sys2Proof.Machine
end

section
/-! One tick of the modulator clock (R46, R53, R117, R200). -/

namespace Sys2Proof.Machine

/-! ### The counts of a tick -/

/-- The axis one tick on: a running carrier that does not turn moves by one (R46). -/
def Axis.ticked (live : Bool) (x : Axis) : Axis :=
  if live && x.state.isActive && !x.turns then x.advanceCount else x

theorem setAxis_axis_self (s : State) (a : AxisId) : s.setAxis a (s.axis a) = s := by
  have axes : (s.setAxis a (s.axis a)).axes = s.axes := axes_ext fun b => by
    rw [axis_setAxis]
    split
    · next h => rw [h]
    · rfl
  calc s.setAxis a (s.axis a) = { s with axes := (s.setAxis a (s.axis a)).axes } := rfl
    _ = s := by rw [axes]

theorem advanceCarrier_eq (s : State) (a : AxisId) : advanceCarrier s a = s.modAxis a (·.ticked s.live) := by
  unfold advanceCarrier State.carrierRuns State.activeAxis
  rw [modAxis_eq, modAxis_eq, Axis.ticked]
  split
  · rfl
  · exact (setAxis_axis_self s a).symm

theorem advanceCarriers_eq (s : State) :
    axisIds.foldl advanceCarrier s = { s with axes := Vector.ofFn fun a => (s.axis a).ticked s.live } := by
  rw [← foldl_modAxis]
  have fold : ∀ (l : List AxisId) (u : State), u.live = s.live →
      l.foldl advanceCarrier u = l.foldl (fun s' a => s'.modAxis a (·.ticked s.live)) u := by
    intro l
    induction l with
    | nil => exact fun u _ => rfl
    | cons a l ih =>
      intro u hu
      rw [List.foldl_cons, List.foldl_cons, advanceCarrier_eq, hu]
      exact ih _ hu
  exact fold axisIds s rfl

theorem ticked_eq (live : Bool) (x : Axis) : x.ticked live =
    if live = true ∧ x.state.isActive = true then
      if x.rising = true then
        if x.carrierCount + 1 < x.workH then { x with carrierCount := x.carrierCount + 1 } else x
      else if 1 < x.carrierCount then { x with carrierCount := x.carrierCount - 1 } else x
    else x := by
  have keeps : x.turns = true ↔ ¬ if x.rising = true then x.carrierCount + 1 < x.workH else 1 < x.carrierCount := by
    unfold Axis.turns
    split <;> simp
  unfold Axis.ticked Axis.advanceCount
  by_cases runs : live = true ∧ x.state.isActive = true
  · rw [if_pos runs, runs.1, runs.2]
    cases ht : x.turns
    · have moves := not_not.mp (keeps.not.mp (Bool.eq_false_iff.mp ht))
      split at moves
      · next hr => simp [hr, moves]
      · next hr => simp [hr, moves]
    · have stays := keeps.mp ht
      split at stays
      · next hr => simp [hr, stays]
      · next hr => simp [hr, stays]
  · rw [if_neg runs, if_neg]
    intro h
    simp only [Bool.and_eq_true] at h
    exact runs h.1

theorem advanceConversion_eq (u : State) : advanceConversion u = { u with
    meas := { u.meas with
      elapsed := if u.live = true ∧ u.meas.queue ≠ [] then min 32 (u.meas.elapsed + 1) else u.meas.elapsed } } := by
  have runs : (u.live && !u.meas.queue.isEmpty) = true ↔ u.live = true ∧ u.meas.queue ≠ [] := by simp
  unfold advanceConversion
  by_cases h : u.live = true ∧ u.meas.queue ≠ []
  · rw [if_pos (runs.mpr h)]
    simp only [if_pos h]
    rfl
  · rw [if_neg fun k => h (runs.mp k)]
    simp only [if_neg h]

theorem timebaseDue_iff (u : State) : timebaseDue u = true ↔ 80 ≤ u.subTick + 1 := decide_eq_true_iff

theorem advanceSubTick_eq (u : State) : advanceSubTick u =
    { u with subTick := if u.subTick + 1 < 80 then u.subTick + 1 else u.subTick } := by
  unfold advanceSubTick
  by_cases h : u.subTick + 1 < 80
  · rw [if_neg fun k => Nat.not_le.mpr h ((timebaseDue_iff u).mp k)]
    simp only [if_pos h]
  · rw [if_pos ((timebaseDue_iff u).mpr (Nat.not_lt.mp h))]
    simp only [if_neg h]

/-- Every count of ticks has moved. -/
theorem advanceCounts_eq (s : State) : advanceCounts s = tickPassed s := by
  unfold advanceCounts
  rw [advanceCarriers_eq, advanceSubTick_eq, advanceConversion_eq]
  unfold tickPassed
  simp only [ticked_eq, ← live_iff]
  rfl

/-! ### The events that fall due -/

/-- With no report in flight twice nothing falls due twice. -/
theorem nodup_dueEvents {s : State} (h : s.reports.Nodup) : (dueEvents s).Nodup := by
  have reports : (if s.live then s.reports.map TickEvent.report else []).Nodup := by
    split
    · exact h.map fun _ _ e => TickEvent.report.inj e
    · exact List.nodup_nil
  have axes : axisIds.Nodup := by decide
  have releases := (axes.filter (releaseDue s)).map (f := TickEvent.release) fun _ _ e => TickEvent.release.inj e
  have carriers := (axes.filter (carrierDue s)).map (f := TickEvent.carrier) fun _ _ e => TickEvent.carrier.inj e
  have single : ∀ (b : Bool) (e : TickEvent), (if b then [e] else []).Nodup := by
    intro b e
    cases b
    · exact List.nodup_nil
    · exact List.nodup_singleton e
  unfold dueEvents
  refine ((((reports.append releases ?_).append carriers ?_).append (single _ .legU) ?_).append
    (single _ .result) ?_).append (single _ .timebase) ?_
  all_goals
    intro e before here
    cases e <;> simp at before here

theorem dueEvents_of_one {s : State} {e : TickEvent} (h : s.reports.Nodup) (he : DueNow s e)
    (hn : ∀ e', DueNow s e' → e' = e) : dueEvents s = [e] :=
  List.perm_singleton.mp ((List.perm_ext_iff_of_nodup (nodup_dueEvents h) (List.nodup_singleton e)).mpr fun e' => by
    rw [mem_dueEvents, List.mem_singleton]
    exact ⟨hn e', fun k => k ▸ he⟩)

/-- An event of a tick other than a result is taken as its own row takes it. -/
theorem exec_tickRow {u : State} {e : TickEvent} (codeU codeV : BitVec 12) (hr : ∀ r, e = .report r → r ∈ u.reports)
    (he : e ≠ .result) : exec (tickRow codeU codeV u e) u = .next (settle (takeTickEvent e u)) := by
  cases e with
  | report r =>
    rw [takeTickEvent, if_pos (hr r rfl)]
    rfl
  | release a => rfl
  | carrier a =>
    unfold tickRow takeTickEvent
    dsimp only
    split <;> rfl
  | legU => rfl
  | result => exact absurd rfl he
  | timebase => rfl

/-- A result is taken as its own row takes it, with the codes of the world. -/
theorem exec_resultRow {u : State} (h : u.meas.queue ≠ []) :
    exec (tickRow (Config.freeCode u.freeCount) (Config.freeCode (u.freeCount + 1)) u .result)
      { u with freeCount := u.freeCount + 2 } = .next (settle (takeTickEvent .result u)) := by
  obtain ⟨⟨source, stale, progress⟩, rest, hq⟩ := List.exists_cons_of_ne_nil h
  unfold takeTickEvent resultEvent tickRow
  dsimp only
  rw [hq]
  cases source <;> rfl

/-! ### The tick -/

theorem sum_microseconds (s : State) :
    ((dueEvents s).map TickEvent.microseconds).sum = if 80 ≤ s.subTick + 1 then 1 else 0 := by
  have none_of_map : ∀ {α : Type} (f : α → TickEvent) (l : List α), (∀ x, (f x).microseconds = 0) →
      ((l.map f).map TickEvent.microseconds).sum = 0 := by
    intro α f l h
    rw [List.map_map, List.sum_eq_zero]
    intro n hn
    obtain ⟨x, _, rfl⟩ := List.mem_map.mp hn
    exact h x
  have one : ∀ b : Bool, ((if b then [TickEvent.timebase] else []).map TickEvent.microseconds).sum = b.toNat := by decide
  have none_of_if : ∀ (b : Bool) (e : TickEvent), e.microseconds = 0 →
      ((if b then [e] else []).map TickEvent.microseconds).sum = 0 := by
    intro b e he
    cases b
    · rfl
    · exact he
  have reports : ((if s.live then s.reports.map TickEvent.report else []).map TickEvent.microseconds).sum = 0 := by
    split
    · exact none_of_map _ _ fun _ => rfl
    · rfl
  unfold dueEvents
  simp only [List.map_append, List.sum_append, reports, one, none_of_map TickEvent.release _ fun _ => rfl,
    none_of_map TickEvent.carrier _ fun _ => rfl, none_of_if _ .legU rfl, none_of_if _ .result rfl, Nat.zero_add]
  cases hd : timebaseDue s
  · rw [if_neg fun k => Bool.false_ne_true (hd.symm.trans ((timebaseDue_iff s).mpr k))]
    rfl
  · rw [if_pos ((timebaseDue_iff s).mp hd)]
    rfl

theorem step_of_idle {s : State} (hp : s.pending = []) (hr : s.resetLow = false) : step s = .next
    (takeInOrder settledTickEvent (dueEvents s).length (dueEvents s) (settle (tickPassed s))) := by
  rw [step, hp, ← advanceCounts_eq]
  refine congrArg _ (if_neg ?_)
  rw [hr]
  exact Bool.false_ne_true

/-- A tick that takes events is the counts' and its own events'. -/
theorem Passed.tick {s : State} (hs : s.Awake) : Passed (if 80 ≤ s.subTick + 1 then 1 else 0) (tickPassed s)
    (Machine.takeInOrder settledTickEvent (dueEvents s).length (dueEvents s) (Machine.settle (tickPassed s))) := by
  have counted : Passed 0 (tickPassed s) (Machine.settle (tickPassed s)) := settle hs.2
  have taken := takeInOrder (take := settledTickEvent) (ticks := TickEvent.microseconds)
    (fun e u hu => (takeTickEvent e hu).trans (settle ((takeTickEvent e hu).part hu.2))) _ (dueEvents s) _ (le_refl _)
    (counted.awake hs)
  rw [sum_microseconds] at taken
  have whole := counted.trans taken
  rwa [Nat.zero_add] at whole

/-- Settles O2: an idle step moves the counts, then takes each event that has fallen due. -/
theorem idleStepCountsOneTick : Obligations.IdleStepCountsOneTick := by
  intro s hp
  refine ⟨fun hr => ?_, fun hr hs hn => ?_, fun hr hs hnd e he hn => ?_, fun hr hpart => ?_⟩
  · rw [step, hp]
    exact congrArg _ (if_pos hr)
  · have none_due : dueEvents s = [] := List.eq_nil_iff_forall_not_mem.mpr fun e he => hn e (mem_dueEvents.mp he)
    refine next_of_settle (u := tickPassed s) ?_ (by exact hs) rfl
    rw [step_of_idle hp hr, none_due]
    rfl
  · have settles : Settles (tickPassed s) (settle (tickPassed s)) := settles_settle (by exact hs)
    have taken : step s = .next (settle (takeTickEvent e (settle (tickPassed s)))) := by
      rw [step_of_idle hp hr, dueEvents_of_one hnd he hn]
      exact congrArg _ (takeInOrder_singleton _ _ _ _)
    have reports : (settle (tickPassed s)).reports = s.reports := by
      rw [settles.frame]
      rfl
    have queue : (settle (tickPassed s)).meas.queue = s.meas.queue := by
      rw [settles.frame]
      rfl
    by_cases result : e = .result
    · subst result
      obtain ⟨_, _, q, hq, _⟩ := he
      refine ⟨_, Config.freeCode (settle (tickPassed s)).freeCount,
        Config.freeCode ((settle (tickPassed s)).freeCount + 1), settles, taken.trans ?_⟩
      rw [if_pos rfl]
      refine (exec_resultRow fun h => ?_).symm
      rw [← queue, h] at hq
      cases hq
    · refine ⟨_, 0, 0, settles, taken.trans ?_⟩
      rw [if_neg result]
      refine (exec_tickRow 0 0 (fun r hr => ?_) result).symm
      subst hr
      rw [reports]
      exact he.2
  · have passed := Passed.tick (s := s) ⟨hr, hpart⟩
    refine ⟨_, step_of_idle hp hr, fun h => ?_, fun h => ?_⟩
    · rw [if_neg (Nat.not_le.mpr h)] at passed
      exact ⟨passed.subTick.trans (if_pos h), passed.timebase.trans (BitVec.add_zero _)⟩
    · rw [if_pos h] at passed
      exact ⟨passed.subTick, passed.timebase⟩

end Sys2Proof.Machine
end
